-- ==== Sys2Proof/Word.lean ====
section
/-! DEFINITION. The block's data types of fixed width (R8 "Widths", R9, R100): the byte, the 16-bit timer word, the
24-bit command word, the flat 16-byte block and the 4x4 state matrix. -/

namespace Sys2Proof

/-- Every data value of the AES engine is an 8-bit byte (R8). -/
abbrev Byte := BitVec 8

/-- The timer counter and the compare register are 16 bits (R8, R44). -/
abbrev Word16 := BitVec 16

/-- A command is one 24-bit word (R100). -/
abbrev CmdWord := BitVec 24

/-- A flat 16-byte block, key or round key (R12). -/
abbrev Block := Vector Byte 16

/-- The state matrix, a vector of four rows of four columns, indexed `[row][col]` (R12, R27). -/
abbrev StateMatrix := Vector (Vector Byte 4) 4

/-- A single bit as a byte: `zext_8` (R9). -/
def zext8 (b : Bool) : Byte := (BitVec.ofBool b).setWidth 8

/-- Element `[row][col]` (R12). -/
def StateMatrix.get (m : StateMatrix) (r c : Fin 4) : Byte := m[r][c]

/-- The matrix whose element `[row][col]` is `f row col`. -/
def StateMatrix.ofFn (f : Fin 4 → Fin 4 → Byte) : StateMatrix :=
  Vector.ofFn fun r => Vector.ofFn fun c => f r c

/-- The matrix with element `[row][col]` replaced. -/
def StateMatrix.put (m : StateMatrix) (r c : Fin 4) (v : Byte) : StateMatrix :=
  m.set r (m[r].set c v)

end Sys2Proof
end

