-- ==== Sys2Proof/Syntax.lean ====
section
/-! DEFINITION. The commands (30_encoding.md R105): one constructor per row of spec/opcode_table.json, with the operand
fields the row uses and no others (R102). An operand is the raw field; whether it is in range is a matter of execution
(R107), see WellFormed. -/

namespace Sys2Proof

inductive Instr where
  /-- 0x00, R130 -/
  | nop
  /-- 0x01, R131 -/
  | clrstat
  /-- 0x02, R132 -/
  | rdstat
  /-- 0x10, R135: A = index 0..15, B = byte -/
  | wkey (a b : Byte)
  /-- 0x11, R136: A = index 0..15, B = byte -/
  | wdata (a b : Byte)
  /-- 0x12, R137: A = index 0..15 -/
  | rdata (a : Byte)
  /-- 0x13, R134: B = byte -/
  | wcfg (b : Byte)
  /-- 0x14, R133 -/
  | rcfg
  /-- 0x20, R152: A = x, B = y -/
  | ffmul (a b : Byte)
  /-- 0x21, R160: A = byte -/
  | parity (a : Byte)
  /-- 0x22, R155: A = row 0..3, B = k 0..4 -/
  | rotrRow (a b : Byte)
  /-- 0x23, R183 -/
  | prngSeed
  /-- 0x24, R185 -/
  | prngNext
  /-- 0x25, R162: A[2:0] = the samples (s3, s2, s1); A[7:3] is unused -/
  | maj3 (a : BitVec 3)
  /-- 0x30, R261 -/
  | keyExpand
  /-- 0x31, R263 -/
  | loadState
  /-- 0x32, R264 -/
  | storeState
  /-- 0x33, R266: A = round 0..10 -/
  | addRoundKey (a : Byte)
  /-- 0x34, R267 -/
  | invShiftRows
  /-- 0x35, R268 -/
  | invByteSub
  /-- 0x36, R270 -/
  | invMixCols
  /-- 0x3F, R275 -/
  | decrypt
  /-- 0x40, R201 -/
  | maskInit
  /-- 0x41, R205 -/
  | maskSubkeys
  /-- 0x42, R206 -/
  | invMaskState
  /-- 0x43, R207 -/
  | invRemaskState
  /-- 0x44, R208 -/
  | invUnmaskState
  /-- 0x45, R210: A = index 0..255 -/
  | rdMsbox (a : Byte)
  /-- 0x50, R231 -/
  | hidingInit
  /-- 0x51, R233 -/
  | shuffleSboxAccess
  /-- 0x52, R234 -/
  | dummyOp
  /-- 0x60, R300: A = byte -/
  | txByte (a : Byte)
  /-- 0x61, R302 -/
  | rxByte
  deriving DecidableEq, Repr

end Sys2Proof
end

