-- ==== Sys2Proof/WellFormed.lean ====
section
/-! DEFINITION. Well-formed commands: every operand the command uses lies in the range the opcode map gives it
(R103, R105). A command that is not well formed still decodes and runs: it raises IllegalOperand (R107, R382). -/

namespace Sys2Proof

def Instr.wellFormed : Instr → Bool
  | .wkey a _ | .wdata a _ | .rdata a => decide (a.toNat < 16)
  | .rotrRow a b => decide (a.toNat < 4) && decide (b.toNat < 5)
  | .addRoundKey a => decide (a.toNat < 11)
  | .nop | .clrstat | .rdstat | .wcfg _ | .rcfg | .ffmul _ _ | .parity _ | .prngSeed | .prngNext | .maj3 _ | .keyExpand
  | .loadState | .storeState | .invShiftRows | .invByteSub | .invMixCols | .decrypt | .maskInit | .maskSubkeys
  | .invMaskState | .invRemaskState | .invUnmaskState | .rdMsbox _ | .hidingInit | .shuffleSboxAccess | .dummyOp
  | .txByte _ | .rxByte => true

end Sys2Proof
end

