-- ==== Sys2Proof/Decode.lean ====
section
/-! DEFINITION. The command encoding (30_encoding.md): fields of a word (R101), the total decoder (R105 to R107), the
encoder, and the assembler at the level of a mnemonic and its operands (R108). -/

namespace Sys2Proof

/-- OPC = w[23:16] (R101). -/
def fieldOpc (w : CmdWord) : Byte := w.extractLsb' 16 8

/-- A = w[15:8] (R101). -/
def fieldA (w : CmdWord) : Byte := w.extractLsb' 8 8

/-- B = w[7:0] (R101). -/
def fieldB (w : CmdWord) : Byte := w.extractLsb' 0 8

/-- Why a word is no command. -/
inductive DecodeError where
  /-- OPC is no row of the opcode map (R106); executing the word raises IllegalCommand (R381). -/
  | illegalCommand (opc : Byte)
  deriving DecidableEq, Repr

/-- A word selects the row whose OPC equals w[23:16]; every other OPC is illegal (R105, R106, R107). A field the row does
not use is dropped, whatever its value (R102). -/
def decode (w : CmdWord) : Except DecodeError Instr :=
  match (fieldOpc w).toNat with
  | 0x00 => .ok .nop
  | 0x01 => .ok .clrstat
  | 0x02 => .ok .rdstat
  | 0x10 => .ok (.wkey (fieldA w) (fieldB w))
  | 0x11 => .ok (.wdata (fieldA w) (fieldB w))
  | 0x12 => .ok (.rdata (fieldA w))
  | 0x13 => .ok (.wcfg (fieldB w))
  | 0x14 => .ok .rcfg
  | 0x20 => .ok (.ffmul (fieldA w) (fieldB w))
  | 0x21 => .ok (.parity (fieldA w))
  | 0x22 => .ok (.rotrRow (fieldA w) (fieldB w))
  | 0x23 => .ok .prngSeed
  | 0x24 => .ok .prngNext
  | 0x25 => .ok (.maj3 ((fieldA w).extractLsb' 0 3))
  | 0x30 => .ok .keyExpand
  | 0x31 => .ok .loadState
  | 0x32 => .ok .storeState
  | 0x33 => .ok (.addRoundKey (fieldA w))
  | 0x34 => .ok .invShiftRows
  | 0x35 => .ok .invByteSub
  | 0x36 => .ok .invMixCols
  | 0x3F => .ok .decrypt
  | 0x40 => .ok .maskInit
  | 0x41 => .ok .maskSubkeys
  | 0x42 => .ok .invMaskState
  | 0x43 => .ok .invRemaskState
  | 0x44 => .ok .invUnmaskState
  | 0x45 => .ok (.rdMsbox (fieldA w))
  | 0x50 => .ok .hidingInit
  | 0x51 => .ok .shuffleSboxAccess
  | 0x52 => .ok .dummyOp
  | 0x60 => .ok (.txByte (fieldA w))
  | 0x61 => .ok .rxByte
  | _ => .error (.illegalCommand (fieldOpc w))

/-- {OPC, A, B}, OPC in the high bits (R101). -/
def commandWord (opc a b : Byte) : CmdWord := (opc.setWidth 24 <<< 16) ||| (a.setWidth 24 <<< 8) ||| b.setWidth 24

/-- The word of a command, 0 in every field it does not use (R105, R108). -/
def encode : Instr → CmdWord
  | .nop => commandWord 0x00 0 0
  | .clrstat => commandWord 0x01 0 0
  | .rdstat => commandWord 0x02 0 0
  | .wkey a b => commandWord 0x10 a b
  | .wdata a b => commandWord 0x11 a b
  | .rdata a => commandWord 0x12 a 0
  | .wcfg b => commandWord 0x13 0 b
  | .rcfg => commandWord 0x14 0 0
  | .ffmul a b => commandWord 0x20 a b
  | .parity a => commandWord 0x21 a 0
  | .rotrRow a b => commandWord 0x22 a b
  | .prngSeed => commandWord 0x23 0 0
  | .prngNext => commandWord 0x24 0 0
  | .maj3 a => commandWord 0x25 (a.setWidth 8) 0
  | .keyExpand => commandWord 0x30 0 0
  | .loadState => commandWord 0x31 0 0
  | .storeState => commandWord 0x32 0 0
  | .addRoundKey a => commandWord 0x33 a 0
  | .invShiftRows => commandWord 0x34 0 0
  | .invByteSub => commandWord 0x35 0 0
  | .invMixCols => commandWord 0x36 0 0
  | .decrypt => commandWord 0x3F 0 0
  | .maskInit => commandWord 0x40 0 0
  | .maskSubkeys => commandWord 0x41 0 0
  | .invMaskState => commandWord 0x42 0 0
  | .invRemaskState => commandWord 0x43 0 0
  | .invUnmaskState => commandWord 0x44 0 0
  | .rdMsbox a => commandWord 0x45 a 0
  | .hidingInit => commandWord 0x50 0 0
  | .shuffleSboxAccess => commandWord 0x51 0 0
  | .dummyOp => commandWord 0x52 0 0
  | .txByte a => commandWord 0x60 a 0
  | .rxByte => commandWord 0x61 0 0

/-- A row of the opcode map: mnemonic, OPC, and which of A and B the command uses (R105). -/
structure OpcodeRow where
  mnemonic : String
  opc : Byte
  usesA : Bool
  usesB : Bool
  deriving DecidableEq, Repr

/-- The opcode map (R105). -/
def opcodeMap : List OpcodeRow :=
  [⟨"NOP", 0x00, false, false⟩, ⟨"CLRSTAT", 0x01, false, false⟩, ⟨"RDSTAT", 0x02, false, false⟩]
  ++ [⟨"WKEY", 0x10, true, true⟩, ⟨"WDATA", 0x11, true, true⟩, ⟨"RDATA", 0x12, true, false⟩]
  ++ [⟨"WCFG", 0x13, false, true⟩, ⟨"RCFG", 0x14, false, false⟩, ⟨"FFMUL", 0x20, true, true⟩]
  ++ [⟨"PARITY", 0x21, true, false⟩, ⟨"ROTR_ROW", 0x22, true, true⟩, ⟨"PRNG_SEED", 0x23, false, false⟩]
  ++ [⟨"PRNG_NEXT", 0x24, false, false⟩, ⟨"MAJ3", 0x25, true, false⟩, ⟨"KEY_EXPAND", 0x30, false, false⟩]
  ++ [⟨"LOAD_STATE", 0x31, false, false⟩, ⟨"STORE_STATE", 0x32, false, false⟩, ⟨"ADD_ROUND_KEY", 0x33, true, false⟩]
  ++ [⟨"INV_SHIFT_ROWS", 0x34, false, false⟩, ⟨"INV_BYTE_SUB", 0x35, false, false⟩, ⟨"INV_MIX_COLS", 0x36, false, false⟩]
  ++ [⟨"DECRYPT", 0x3F, false, false⟩, ⟨"MASK_INIT", 0x40, false, false⟩, ⟨"MASK_SUBKEYS", 0x41, false, false⟩]
  ++ [⟨"INV_MASK_STATE", 0x42, false, false⟩, ⟨"INV_REMASK_STATE", 0x43, false, false⟩, ⟨"INV_UNMASK_STATE", 0x44, false, false⟩]
  ++ [⟨"RD_MSBOX", 0x45, true, false⟩, ⟨"HIDING_INIT", 0x50, false, false⟩, ⟨"SHUFFLE_SBOX_ACCESS", 0x51, false, false⟩]
  ++ [⟨"DUMMY_OP", 0x52, false, false⟩, ⟨"TX_BYTE", 0x60, true, false⟩, ⟨"RX_BYTE", 0x61, false, false⟩]

/-- The operand fields of an assembler line: the used operands in the order A, B, 0 in an unused field; no word when
their number differs from what the row uses or one is above 255 (R108). -/
def assembleFields (row : OpcodeRow) (ops : List Nat) : Option (Byte × Byte) :=
  if ops.all (· < 256) then
    match row.usesA, row.usesB, ops with
    | true, true, [x, y] => some (BitVec.ofNat 8 x, BitVec.ofNat 8 y)
    | true, false, [x] => some (BitVec.ofNat 8 x, 0)
    | false, true, [y] => some (0, BitVec.ofNat 8 y)
    | false, false, [] => some (0, 0)
    | _, _, _ => none
  else none

/-- The assembler's word for a mnemonic and its operands (R108). -/
def assemble (mnemonic : String) (ops : List Nat) : Option CmdWord :=
  match opcodeMap.find? (·.mnemonic = mnemonic) with
  | some row => (assembleFields row ops).map fun ab => commandWord row.opc ab.1 ab.2
  | none => none

/-- The command the decoder reads from a word whose bits are `w`, numbered as spec/opcode_table.json numbers them: the
command word is one 24-bit value (R76), so the table's bit k is bit k of the word. Bits at or above `nbits` are 0. -/
def decodeTableWord (nbits w : Nat) : Option Instr :=
  let bits := w % 2 ^ nbits
  if bits < 2 ^ 24 then
    match decode (BitVec.ofNat 24 bits) with
    | .ok i => some i
    | .error _ => none
  else none

end Sys2Proof
end

