-- ==== Sys2Proof/Config.lean ====
section
/-! DEFINITION. What an implementation fixes (the parameters and constants of R8) and the free values: opaque constants
without a body, of which nothing can be proved. -/

namespace Sys2Proof

/-- One answer of the entropy oracle (R182): the conversion's least significant bit, and whether the ADC was unreachable.
`unavailable` counts only where the parameter ENTROPY_CAN_FAIL is true. -/
structure Conversion where
  bit : Bool
  unavailable : Bool
  deriving DecidableEq, Repr, Inhabited

/-- The agents that take steps (R15). The terminal's step writes TERM (R46, R317). -/
inductive Agent where
  | host
  | foreground
  | pinChange
  | pendingEdge
  | timer
  | terminal (level : Bool)
  deriving DecidableEq, Repr, Inhabited

/-- The parameters a model takes (R8), the spec's two named premises about the environment, and the choice of R36.
They are carried in State, so that a statement about every state holds for every value of them; no step changes them. -/
structure Params where
  /-- ETU_TICKS (R8). -/
  etuTicks : Nat
  /-- FUDGE, ticks subtracted for ISR latency (R8). -/
  fudge : Nat
  /-- MASTER_KEY, the key loaded into KEY at reset (R8, R25). -/
  masterKey : Block
  /-- BUILD_FLAGS, the reset value of CFG bits 3:0 (R8, R22). -/
  buildFlags : BitVec 4
  /-- ENTROPY_CAN_FAIL (R8, R182). -/
  entropyCanFail : Bool
  /-- PCINT_LATCH (R8, R307). -/
  pcintLatch : Bool
  /-- The premise GLITCH_FREE: every SAMPLE answers LINE (R305). -/
  glitchFree : Bool
  /-- The premise PROMPT: where the agenda is empty, every enabled step runs before the next tick (R430). -/
  prompt : Bool
  /-- R36's model fault UnwrittenRead is in force. Off, a read of an unwritten element returns the byte the element
  holds, as the hardware does. DESIGN CHOICE, log entry 2. -/
  strictReads : Bool
  deriving DecidableEq, Repr

namespace Config

/-- MAX_NUMBER_NO_OPS (R8). -/
def maxNumberNoOps : Nat := 100

/-- N_DUMMY, the entries of the dummy-op schedule (R8). -/
abbrev nDummy : Nat := 40

/-- SCHED_DIV, the divisor in the schedule construction (R8). -/
def schedDiv : Nat := 6

/-- N_ROUNDKEYS (R8). -/
abbrev nRoundKeys : Nat := 11

/-- MASTER_KEY of the target: no default (R8). A free value, log entry 4. -/
opaque masterKey : Block

/-- F_CPU: no default, and no rule depends on it (R8). -/
opaque fCpu : Nat

/-- PRNG at reset: "a draw of any byte" (R32). A free value, log entry 3. -/
opaque prngAtReset : Byte

/-- The n-th answer of the entropy oracle where the environment's queue gives none (R182). A free value, log entry 8. -/
opaque freeConversion : Nat → Conversion

/-- The n-th read of the line where GLITCH_FREE is not assumed and the queue gives none (R305). A free value,
log entry 10. -/
opaque freeSample : Nat → Bool

/-- The agent of the n-th step where neither the agenda nor PROMPT decides (R389). A free value, log entry 11. -/
opaque freeAgent : Nat → Agent

/-- The parameters of the target (R8). BUILD_FLAGS has no default: 0 is the model's choice, log entry 5. -/
def target : Params where
  etuTicks := 372
  fudge := 50
  masterKey := masterKey
  buildFlags := 0
  entropyCanFail := false
  pcintLatch := false
  glitchFree := true
  prompt := true
  strictReads := false

end Config

end Sys2Proof
end

