-- ==== Sys2Proof/Machine/Env.lean ====
section
/-! DEFINITION. The environment as data: what the outside world has yet to do to the block (host words, terminal writes,
oracle answers) and which agent steps next. The model's own fields, none of the spec's registers. -/

namespace Sys2Proof.Machine

/-- A word the host will issue. The host may use RES, the response of the last command, as an operand of the next (R360). -/
inductive HostItem where
  /-- the word itself -/
  | word (w : CmdWord)
  /-- RES in field A, 0 in field B (TX_BYTE RES) -/
  | resInA (opc : Byte)
  /-- RES in field B (WDATA i, RES) -/
  | resInB (opc a : Byte)
  deriving DecidableEq, Repr

structure Env where
  /-- the words the host has yet to issue, oldest first (R423) -/
  cmds : List HostItem
  /-- the words the host issues again each time `cmds` is empty (R360 `goto loop`) -/
  hostLoop : List HostItem
  /-- the agents that step next, in this order (R389); when empty, PROMPT or a free choice decides -/
  agenda : List Agent
  /-- the terminal's coming writes of TERM: clock units to wait before each, and the level (R317) -/
  termScript : List (Nat × Bool)
  /-- the coming answers of the entropy oracle, oldest first (R182); when empty, free answers -/
  adcQueue : List Conversion
  /-- how many conversions have been made -/
  conversions : Nat
  /-- the coming reads of a line that is not glitch-free, oldest first (R305); when empty, free answers -/
  sampleQueue : List Bool
  /-- how many reads of a line that is not glitch-free have been made -/
  samples : Nat
  /-- how many free choices of an agent have been made -/
  turns : Nat
  deriving DecidableEq, Repr

/-- No input pending, nothing drawn. -/
def Env.empty : Env where
  cmds := []
  hostLoop := []
  agenda := []
  termScript := []
  adcQueue := []
  conversions := 0
  sampleQueue := []
  samples := 0
  turns := 0

/-- The bit of a conversion, or none for UNAVAILABLE, which is an answer only where ENTROPY_CAN_FAIL is true (R182). -/
def conversionAnswer (canFail : Bool) (c : Conversion) : Option Bool :=
  if canFail && c.unavailable then none else some c.bit

/-- The conversion the oracle answers next: the queue's oldest, else a free value. -/
def Env.nextConversion (e : Env) : Conversion := e.adcQueue.headD (Config.freeConversion e.conversions)

/-- `e` with one conversion made. -/
def Env.afterConversion (e : Env) : Env :=
  { e with adcQueue := e.adcQueue.tail, conversions := e.conversions + 1 }

/-- The read of a line without GLITCH_FREE: the queue's oldest, else a free value (R305). -/
def Env.nextSample (e : Env) : Bool := e.sampleQueue.headD (Config.freeSample e.samples)

/-- `e` with one read made. -/
def Env.afterSample (e : Env) : Env :=
  { e with sampleQueue := e.sampleQueue.tail, samples := e.samples + 1 }

end Sys2Proof.Machine
end

