-- ==== Sys2Proof/Machine/KeySchedule.lean ====
section
/-! DEFINITION. The key schedule (45_aes_core.md R260) and the two ways between a flat block and the state matrix (R12,
R73, R263, R264). -/

namespace Sys2Proof.Machine

/-- g of R260: the substituted and rotated last column of the previous round key, RC[i-1] in its first byte. -/
def scheduleWord (rc : Byte) (p : Block) : Vector Byte 4 :=
  #v[sbox p[13] ^^^ rc, sbox p[14], sbox p[15], sbox p[12]]

/-- Byte 4*c + r of the next round key: p[j] ^ g[j] in column 0, p[j] ^ rk[j-4] in the others (R260). -/
def scheduleByte (rc : Byte) (p : Block) (r : Fin 4) : Nat → Byte
  | 0 => p.getD r.val 0 ^^^ (scheduleWord rc p)[r]
  | c + 1 => p.getD (4 * (c + 1) + r.val) 0 ^^^ scheduleByte rc p r c

/-- The round key after `p` (R260). -/
def nextRoundKey (rc : Byte) (p : Block) : Block :=
  Vector.ofFn fun j : Fin 16 => scheduleByte rc p ⟨j.val % 4, Nat.mod_lt _ (by decide)⟩ (j.val / 4)

/-- rk[i] of the key `k` (R260). -/
def roundKey (k : Block) : Nat → Block
  | 0 => k
  | i + 1 => nextRoundKey (roundCoefficients.getD i 0) (roundKey k i)

/-- KeyExpand(k), the 11 round keys (R260). -/
def keyExpand (k : Block) : Vector Block Config.nRoundKeys :=
  Vector.ofFn fun i : Fin Config.nRoundKeys => roundKey k i.val

/-- Flat index 4*col + row (R12). -/
def flatIndex (r c : Fin 4) : Fin 16 := ⟨4 * c.val + r.val, by omega⟩

/-- The row of flat index k: k mod 4 (R12). -/
def flatRow (k : Fin 16) : Fin 4 := ⟨k.val % 4, by omega⟩

/-- The column of flat index k: k div 4 (R12). -/
def flatCol (k : Fin 16) : Fin 4 := ⟨k.val / 4, by omega⟩

/-- The matrix of a flat block, column by column (R263). -/
def matrixOfBlock (d : Block) : StateMatrix := StateMatrix.ofFn fun r c => d[flatIndex r c]

/-- The flat block of a matrix, column by column (R264). -/
def blockOfMatrix (m : StateMatrix) : Block := Vector.ofFn fun k : Fin 16 => m.get (flatRow k) (flatCol k)

end Sys2Proof.Machine
end

