-- ==== Sys2Proof/Machine/State.lean ====
section
/-! DEFINITION. The state of the block as plain data (10_state.md), the reasons a step can stop, and the state after reset
(70_reset_and_hazards.md R420, R421). -/

namespace Sys2Proof.Machine

/-- Who drives the line (R40). -/
inductive Dir where
  | input
  | output
  deriving DecidableEq, Repr

/-- The phase of the foreground sequencer (R45). -/
inductive Phase where
  | idle
  | txBit
  | txCheck
  | rxWait
  deriving DecidableEq, Repr

/-- The mask registers (R30). MCM_IN[r] = m_(r+1) and MCM_OUT[r] = m_(r+1)′ (R13). -/
structure Masks where
  /-- SBM_IN = m: the mask on the masked S-Box's output (R13, R202) -/
  sbmIn : Byte
  /-- SBM_OUT = m′: the mask the masked S-Box expects on its input (R13, R202) -/
  sbmOut : Byte
  mcmIn : Vector Byte 4
  mcmOut : Vector Byte 4
  deriving DecidableEq, Repr

/-- The transceiver's state (R40 to R46). -/
structure Xcvr where
  /-- DIR (R40) -/
  dir : Dir
  /-- LINE_DRV (R41) -/
  lineDrv : Bool
  bitSent : Bool
  outputBit : Bool
  byteReceived : Bool
  /-- 0..9 (R42) -/
  inputBitCounter : Nat
  inputByte : Byte
  checkErrors : Bool
  errorBit : Bool
  parityError : Bool
  nackDriven : Bool
  /-- PCIE (R43) -/
  pcie : Bool
  /-- PC_PEND (R43) -/
  pcPend : Bool
  /-- TRUN (R44) -/
  trun : Bool
  /-- TCNT (R44) -/
  tcnt : Word16
  /-- OCR (R44) -/
  ocr : Word16
  /-- FG (R45) -/
  fg : Phase
  /-- TXB (R45) -/
  txb : Byte
  /-- TXIDX, 0..10 (R45) -/
  txIdx : Nat
  /-- TERM: 1 = released, 0 = pulled low (R46) -/
  term : Bool
  /-- LINE_PREV (R46) -/
  linePrev : Bool
  deriving DecidableEq, Repr

/-- Which elements with an unspecified reset value a command has written since reset (R36): DATA byte by byte (WDATA
writes one), the others whole, as their commands write them. -/
structure Written where
  data : Vector Bool 16
  state : Bool
  mrk : Bool
  masks : Bool
  msbox : Bool
  perm : Bool
  sched : Bool
  deriving DecidableEq, Repr

/-- An element with an unspecified reset value (R36). -/
inductive Element where
  | data (i : Fin 16)
  | state
  | mrk
  | masks
  | msbox
  | perm
  | sched
  deriving DecidableEq, Repr

/-- Why the machine stops. -/
inductive Fault where
  /-- A command read an element that no command has written since reset, with the parameter strictReads on (R36, R385).
  Raised by the commands whose rules name it. Safe: the hardware returns some byte and goes on. -/
  | unwrittenRead (e : Element)
  deriving DecidableEq, Repr

/-- Why an instruction is refused. -/
inductive Refusal where
  /-- The instruction has no meaning in this model. Raised by no arm of exec. Safe. -/
  | notModelled (mnemonic : String)
  deriving DecidableEq, Repr

structure State where
  /-- CFG (R22) -/
  cfg : Byte
  /-- STATUS (R23) -/
  status : Byte
  /-- RES (R24) -/
  res : Byte
  /-- KEY (R25) -/
  key : Block
  /-- DATA (R26) -/
  data : Block
  /-- STATE (R27) -/
  state : StateMatrix
  /-- RK (R28) -/
  rk : Vector Block Config.nRoundKeys
  /-- MRK (R29) -/
  mrk : Vector Block Config.nRoundKeys
  /-- SBM_IN, SBM_OUT, MCM_IN, MCM_OUT (R30) -/
  masks : Masks
  /-- MSBOX (R31) -/
  msbox : Vector Byte 256
  /-- PRNG (R32) -/
  prng : Byte
  /-- PERM (R33), its entries as indices 0..15: log entry 13 -/
  perm : Vector (Fin 16) 16
  /-- SCHED (R34) -/
  sched : Vector Byte Config.nDummy
  /-- DCNT, 0..40 (R35) -/
  dcnt : Nat
  /-- NOPCOUNT (R35) -/
  nopCount : Word16
  /-- DIR to LINE_PREV (R40 to R46) -/
  xcvr : Xcvr
  /-- what has been written since reset (R36) -/
  written : Written
  /-- the parameters (R8) -/
  params : Params
  /-- the environment (the model's own) -/
  env : Env
  deriving DecidableEq, Repr

/-- The I/O line: a wired-AND of the two drivers over the pull-up (R46, R304). -/
def Xcvr.line (x : Xcvr) : Bool := (if x.dir = .output then x.lineDrv else true) && x.term

/-- The transceiver after reset, the terminal driving `term` (R420). -/
def Xcvr.reset (term : Bool) : Xcvr where
  dir := .input
  lineDrv := true
  bitSent := false
  outputBit := true
  byteReceived := false
  inputBitCounter := 0
  inputByte := 0x00
  checkErrors := false
  errorBit := true
  parityError := false
  nackDriven := false
  pcie := false
  pcPend := false
  trun := false
  tcnt := 0
  ocr := 0
  fg := .idle
  txb := 0x00
  txIdx := 0
  term := term
  linePrev := term

/-- The values of R420, with parameters `p`, the PRNG's draw and the terminal's choice. The elements R420 calls
unspecified hold 0: DESIGN CHOICE, log entry 1. -/
def State.powerUp (p : Params) (prng : Byte) (term : Bool) : State where
  cfg := p.buildFlags.setWidth 8
  status := 0x00
  res := 0x00
  key := p.masterKey
  data := Vector.replicate 16 0
  state := Vector.replicate 4 (Vector.replicate 4 0)
  rk := keyExpand p.masterKey
  mrk := Vector.replicate Config.nRoundKeys (Vector.replicate 16 0)
  masks := { sbmIn := 0, sbmOut := 0, mcmIn := Vector.replicate 4 0, mcmOut := Vector.replicate 4 0 }
  msbox := Vector.replicate 256 0
  prng := prng
  perm := Vector.replicate 16 0
  sched := Vector.replicate Config.nDummy 0
  dcnt := 0
  nopCount := 0
  xcvr := Xcvr.reset term
  written :=
    { data := Vector.replicate 16 false, state := false, mrk := false, masks := false, msbox := false, perm := false,
      sched := false }
  params := p
  env := Env.empty

/-- After the values of R420, one conversion is made and its answer, UNAVAILABLE or not, is discarded (R421). -/
def State.resetWith (p : Params) (prng : Byte) (term : Bool) : State :=
  { State.powerUp p prng term with env := (State.powerUp p prng term).env.afterConversion }

/-- The machine right after reset, with the target's parameters; the terminal has released the line (log entry 6). -/
def State.reset : State := State.resetWith Config.target Config.prngAtReset true

end Sys2Proof.Machine
end

