-- ==== Sys2Proof/Machine/Flags.lean ====
section
/-! DEFINITION. The flags: the fields of CFG (R22), the bits of STATUS and the errors that set them (R23, R380), and the
two flag units of the transceiver, parity and majority (R159, R161). -/

namespace Sys2Proof.Machine

/-! ### CFG (R22) -/

/-- CFG.MASKING, bit 0. -/
def State.masking (s : State) : Bool := s.cfg.getLsbD 0

/-- CFG.SHUFFLING, bit 1. -/
def State.shuffling (s : State) : Bool := s.cfg.getLsbD 1

/-- CFG.DUMMY_OPS, bit 2. -/
def State.dummyOps (s : State) : Bool := s.cfg.getLsbD 2

/-- CFG.DPA, bit 3. -/
def State.dpa (s : State) : Bool := s.cfg.getLsbD 3

/-- The value CFG takes when B is written: zext_8(B[3:0]), bits 7:4 ignored (R22, R134). -/
def cfgValue (b : Byte) : Byte := b &&& 0x0F

/-! ### STATUS (R23) -/

/-- The errors a command can report (R380). -/
inductive CmdError where
  /-- R381 -/
  | illegalCommand
  /-- R382 -/
  | illegalOperand
  /-- R383 -/
  | entropyUnavailable
  /-- R384 -/
  | scheduleOverrun
  deriving DecidableEq, Repr

/-- The cause code of an error is the bit number of its STATUS bit (R380 to R384). -/
def CmdError.code : CmdError → Nat
  | .illegalCommand => 0
  | .illegalOperand => 1
  | .entropyUnavailable => 2
  | .scheduleOverrun => 3

/-- The STATUS bit of an error (R23). -/
def CmdError.statusBit (e : CmdError) : Byte := 1 <<< e.code

/-! ### The transceiver's flag units -/

/-- The even-parity bit of b: the XOR fold by 4, 2 and 1, so 1 iff popcount(b) is odd (R159; 90_conflicts.md C1). -/
def parityBit (b : Byte) : Bool :=
  let t1 := b ^^^ (b >>> 4)
  let t2 := t1 ^^^ (t1 >>> 2)
  let t3 := t2 ^^^ (t2 >>> 1)
  t3.getLsbD 0

/-- One sample's contribution to the voter's sum: +1 for high, -1 for low (R161). -/
def vote (sample : Bool) : Int := if sample then 1 else -1

/-- The majority of three line samples: sum > 0 (R161). -/
def maj3 (s1 s2 s3 : Bool) : Bool := decide (vote s1 + vote s2 + vote s3 > 0)

end Sys2Proof.Machine
end

