-- ==== Sys2Proof/Machine/Ops.lean ====
section
/-! DEFINITION. The shared operations: writing an element (which marks it written, R36), reporting an error (R380), what
a command's pseudocode comes to (R11), and reading an element that may be unwritten (R36). -/

namespace Sys2Proof.Machine

/-! ### Writing an element -/

/-- `CFG <- v` -/
def State.setCfg (s : State) (v : Byte) : State := { s with cfg := v }

/-- `STATUS <- v` -/
def State.setStatus (s : State) (v : Byte) : State := { s with status := v }

/-- `RES <- v` -/
def State.setRes (s : State) (v : Byte) : State := { s with res := v }

/-- `KEY[i] <- v` -/
def State.setKeyByte (s : State) (i : Fin 16) (v : Byte) : State := { s with key := s.key.set i v }

/-- `DATA[i] <- v` -/
def State.setDataByte (s : State) (i : Fin 16) (v : Byte) : State :=
  { s with data := s.data.set i v, written := { s.written with data := s.written.data.set i true } }

/-- `DATA <- d` -/
def State.setData (s : State) (d : Block) : State :=
  { s with data := d, written := { s.written with data := Vector.replicate 16 true } }

/-- `STATE <- m` -/
def State.setState (s : State) (m : StateMatrix) : State :=
  { s with state := m, written := { s.written with state := true } }

/-- `RK <- t` -/
def State.setRk (s : State) (t : Vector Block Config.nRoundKeys) : State := { s with rk := t }

/-- `MRK <- t` -/
def State.setMrk (s : State) (t : Vector Block Config.nRoundKeys) : State :=
  { s with mrk := t, written := { s.written with mrk := true } }

/-- The mask registers written together (R30: only by MASK_INIT). -/
def State.setMasks (s : State) (m : Masks) : State :=
  { s with masks := m, written := { s.written with masks := true } }

/-- `MSBOX <- t` -/
def State.setMsbox (s : State) (t : Vector Byte 256) : State :=
  { s with msbox := t, written := { s.written with msbox := true } }

/-- `PRNG <- x` -/
def State.setPrng (s : State) (x : Byte) : State := { s with prng := x }

/-- `PERM <- p` -/
def State.setPerm (s : State) (p : Vector (Fin 16) 16) : State :=
  { s with perm := p, written := { s.written with perm := true } }

/-- `SCHED <- t` -/
def State.setSched (s : State) (t : Vector Byte Config.nDummy) : State :=
  { s with sched := t, written := { s.written with sched := true } }

/-- `DCNT <- d; NOPCOUNT <- n` -/
def State.setCounters (s : State) (d : Nat) (n : Word16) : State := { s with dcnt := d, nopCount := n }

/-- The transceiver's elements replaced. -/
def State.setXcvr (s : State) (x : Xcvr) : State := { s with xcvr := x }

/-- The environment replaced. -/
def State.setEnv (s : State) (e : Env) : State := { s with env := e }

/-! ### Reporting an error -/

/-- The one way an error takes effect: its STATUS bit is set, whatever the bit's old value, and nothing else changes
(R23, R380). There is no vector, saved state or mode (R380), and so no return (R392): the host may issue the next
command at once, and CLRSTAT clears the record. -/
def State.raise (s : State) (e : CmdError) : State := s.setStatus (s.status ||| e.statusBit)

/-- CLRSTAT's effect, the only way a STATUS bit is cleared but for reset (R23, R131). -/
def State.clearErrors (s : State) : State := s.setStatus 0x00

/-! ### What a command comes to -/

/-- The result of a command's pseudocode. -/
inductive Effect where
  /-- the command has its effect -/
  | done (s : State)
  /-- the command raised `e` after the oracle gave answers, which leaves the environment at `env` (R11) -/
  | raised (e : CmdError) (env : Env)
  /-- the model stops -/
  | stopped (f : Fault)

/-- One command's effect, then the next one's (the lines of a micro-program, R275). -/
def Effect.andThen : Effect → (State → Effect) → Effect
  | .done s, k => k s
  | .raised e env, _ => .raised e env
  | .stopped f, _ => .stopped f

/-- A command ends. One that raises is all-or-nothing: every element is as before it, its STATUS bit apart; answers the
oracle gave are not taken back (R11, R275, R380). -/
def settle (before : State) : Effect → Host.Outcome State Fault Refusal
  | .done s => .next s
  | .raised e env => .next ((before.setEnv env).raise e)
  | .stopped f => .fault f

/-! ### Reading an element that may be unwritten -/

/-- Whether a command has written the element since reset (R36). -/
def State.holds (s : State) : Element → Bool
  | .data i => s.written.data[i]
  | .state => s.written.state
  | .mrk => s.written.mrk
  | .masks => s.written.masks
  | .msbox => s.written.msbox
  | .perm => s.written.perm
  | .sched => s.written.sched

/-- A read of the element returns a value: it has been written, or strictReads is off and the read returns the byte the
element holds, as on the hardware (R36; log entry 2). -/
def State.readable (s : State) (e : Element) : Bool := !s.params.strictReads || s.holds e

/-- The effect of a command that reads `es`, in this order: UnwrittenRead of the first that is not readable (R36, R385). -/
def reading (es : List Element) (s : State) (k : Effect) : Effect :=
  match es.find? fun e => !s.readable e with
  | some e => .stopped (.unwrittenRead e)
  | none => k

/-- The 16 bytes of DATA, in index order. -/
def dataElements : List Element := (List.finRange 16).map Element.data

end Sys2Proof.Machine
end

