-- ==== Sys2Proof/Machine/Operands.lean ====
section
/-! DEFINITION. Operands (R102, R103): the raw 8-bit field as an index, row, count or round number within its range, and
the sample bits of MAJ3. -/

namespace Sys2Proof.Machine

/-- The command continues with operand `a` as a number below `n`; an operand outside its range raises IllegalOperand and
the command has no other effect (R103, R382). -/
def operand (n : Nat) (a : Byte) (s : State) (k : Fin n → Effect) : Effect :=
  if h : a.toNat < n then k ⟨a.toNat, h⟩ else .raised .illegalOperand s.env

/-- The samples (s1, s2, s3) of MAJ3's operand: s1 = A[0], s2 = A[1], s3 = A[2] (R162). -/
def samplesOf (a : BitVec 3) : Bool × Bool × Bool := (a.getLsbD 0, a.getLsbD 1, a.getLsbD 2)

end Sys2Proof.Machine
end

