-- ==== Sys2Proof/Machine/GfArith.lean ====
section
/-! DEFINITION. The commands that expose the combinational units (41_gf_arith.md). -/

namespace Sys2Proof.Machine

/-- FFMUL: RES <- ffMul(A, B) (R152). -/
def execFfmul (a b : Byte) (s : State) : Host.Outcome State Fault Refusal := settle s (.done (s.setRes (ffMul a b)))

/-- PARITY: RES <- zext_8(parityBit(A)) (R160). -/
def execParity (a : Byte) (s : State) : Host.Outcome State Fault Refusal :=
  settle s (.done (s.setRes (zext8 (parityBit a))))

/-- The state with row `r` rotated right by `k`: the other rows are not touched (R155). -/
def rotateRow (m : StateMatrix) (r : Fin 4) (k : Nat) : StateMatrix := m.set r (rotrRow m[r] k)

/-- ROTR_ROW: STATE[A][0..3] <- rotr(STATE[A][0..3], 4, B) (R155). -/
def execRotrRow (a b : Byte) (s : State) : Host.Outcome State Fault Refusal :=
  settle s (operand 4 a s fun r => operand 5 b s fun k =>
    reading [.state] s (.done (s.setState (rotateRow s.state r k.val))))

/-- MAJ3: RES <- zext_8(maj3(A[0], A[1], A[2])) (R162). -/
def execMaj3 (a : BitVec 3) (s : State) : Host.Outcome State Fault Refusal :=
  settle s (.done (s.setRes (zext8 (maj3 (samplesOf a).1 (samplesOf a).2.1 (samplesOf a).2.2))))

end Sys2Proof.Machine
end

