-- ==== Sys2Proof/Machine/Prng.lean ====
section
/-! DEFINITION. The PRNG and its entropy source (42_prng.md). -/

namespace Sys2Proof.Machine

/-- `n` conversions shifted into `acc`, the first ending highest; none when one answers UNAVAILABLE, which ends the
seeding (R183). The environment after the conversions made. -/
def seedBits (canFail : Bool) : (n : Nat) → (acc : Byte) → (e : Env) → Option Byte × Env
  | 0, acc, e => (some acc, e)
  | n + 1, acc, e =>
    match conversionAnswer canFail e.nextConversion with
    | none => (none, e.afterConversion)
    | some b => seedBits canFail n ((acc <<< 1) ||| zext8 b) e.afterConversion

/-- Seed(), then the rest of the command; EntropyUnavailable leaves PRNG unchanged (R183). -/
def seeding (s : State) (k : State → Effect) : Effect :=
  match seedBits s.params.entropyCanFail 8 0x00 s.env with
  | (none, e) => .raised .entropyUnavailable e
  | (some x, e) => k ((s.setEnv e).setPrng x)

/-- PRNG_SEED (R183). -/
def execPrngSeed (s : State) : Host.Outcome State Fault Refusal := settle s (seeding s .done)

/-- PRNG_NEXT: RES <- Next(), the new PRNG (R184, R185). -/
def execPrngNext (s : State) : Host.Outcome State Fault Refusal :=
  settle s (.done ((s.setPrng (prngStep s.prng)).setRes (prngStep s.prng)))

end Sys2Proof.Machine
end

