-- ==== Sys2Proof/Machine/Hiding.lean ====
section
/-! DEFINITION. Hiding (44_hiding.md): the dummy-op schedule, the shuffled access order, the dummy op and its prefixes. -/

namespace Sys2Proof.Machine

/-- `n` schedule entries drawn from PRNG `x` with `rem` no-ops remaining, each `Next() mod (rem div 6)`; the entries,
what remains, and the PRNG after (R232, the first loop). -/
def drawEntries : (n : Nat) → (rem : Nat) → (x : Byte) → List Nat × Nat × Byte
  | 0, rem, x => ([], rem, x)
  | n + 1, rem, x =>
    let x' := prngStep x
    let entry := x'.toNat % (rem / Config.schedDiv)
    let rest := drawEntries n (rem - entry) x'
    (entry :: rest.1, rest.2)

/-- A descending Fisher-Yates from index `i` down to 1: `j <- Next() mod (i + 1); swap` (R232, R233). The permuted vector
and the PRNG after. -/
def fisherYates {α : Type} {n : Nat} : (i : Nat) → (x : Byte) → (v : Vector α n) → Vector α n × Byte
  | 0, x, v => (v, x)
  | i + 1, x, v =>
    let x' := prngStep x
    fisherYates i x' (v.swapIfInBounds (i + 1) (x'.toNat % (i + 2)))

/-- The schedule before its shuffle: 39 drawn entries, the remainder in the last slot (R232). -/
def unshuffledSchedule (x : Byte) : Vector Byte Config.nDummy × Byte :=
  let d := drawEntries 39 Config.maxNumberNoOps x
  (Vector.ofFn fun i : Fin Config.nDummy => BitVec.ofNat 8 ((d.1 ++ [d.2.1]).getD i.val 0), d.2.2)

/-- BuildSchedule() from PRNG `x`: the schedule and the PRNG after its 78 draws (R232). -/
def buildSchedule (x : Byte) : Vector Byte Config.nDummy × Byte :=
  let u := unshuffledSchedule x
  fisherYates 39 u.2 u.1

/-- The access order drawn from PRNG `x` and the PRNG after its 15 draws (R233). -/
def shuffledOrder (x : Byte) : Vector (Fin 16) 16 × Byte :=
  fisherYates 15 x (Vector.ofFn fun i : Fin 16 => i)

/-- The state with a schedule drawn from its PRNG where CFG.DUMMY_OPS = 1, and the counters cleared (R231). -/
def State.drawnSchedule (s : State) : State :=
  let d := buildSchedule s.prng
  (if s.dummyOps then (s.setSched d.1).setPrng d.2 else s).setCounters 0 0

/-- HIDING_INIT's effect (R231). -/
def hidingInit (s : State) : Effect := seeding s fun t => .done t.drawnSchedule

/-- HIDING_INIT (R231). -/
def execHidingInit (s : State) : Host.Outcome State Fault Refusal := settle s (hidingInit s)

/-- SHUFFLE_SBOX_ACCESS's effect: it continues from the PRNG and acts whatever CFG holds (R233). -/
def shuffleSboxAccess (s : State) : Effect :=
  let d := shuffledOrder s.prng
  .done ((s.setPrng d.2).setPerm d.1)

/-- SHUFFLE_SBOX_ACCESS (R233). -/
def execShuffleSboxAccess (s : State) : Host.Outcome State Fault Refusal := settle s (shuffleSboxAccess s)

/-- DummyOp(): no effect with CFG.DUMMY_OPS = 0; ScheduleOverrun at DCNT = 40; else SCHED[DCNT] no-op cycles are counted
modulo 2^16 and DCNT advances (R234). -/
def dummyOperation (s : State) : Effect :=
  if s.dummyOps then
    if h : s.dcnt < Config.nDummy then
      reading [.sched] s (.done (s.setCounters (s.dcnt + 1) (s.nopCount + s.sched[s.dcnt].setWidth 16)))
    else .raised .scheduleOverrun s.env
  else .done s

/-- DUMMY_OP (R234). -/
def execDummyOp (s : State) : Host.Outcome State Fault Refusal := settle s (dummyOperation s)

/-- DummyPrefixLinear(), of ADD_ROUND_KEY, INV_MIX_COLS and INV_SHIFT_ROWS: suppressed under DPA (R235). -/
def dummyPrefixLinear (s : State) : Effect := if s.dummyOps && !s.dpa then dummyOperation s else .done s

/-- DummyPrefixSub(), of INV_BYTE_SUB (R235). -/
def dummyPrefixSub (s : State) : Effect := if s.dummyOps then dummyOperation s else .done s

end Sys2Proof.Machine
end

