-- ==== Sys2Proof/Machine/Masking.lean ====
section
/-! DEFINITION. Masking (43_masking.md). The commands act whatever CFG.MASKING holds; CFG.DPA changes MASK_INIT only. -/

namespace Sys2Proof.Machine

/-- The mask registers made from m, m′ and the four m_i′: the m_i are their InvMixColumn (R201, R203). -/
def masksFrom (m mp : Byte) (out : Vector Byte 4) : Masks :=
  { sbmIn := m, sbmOut := mp, mcmIn := invMixColumn out, mcmOut := out }

/-- The draws of MASK_INIT from PRNG `x`, in the order m, m′, m_1′ to m_4′; one draw for all under DPA. The masks and the
PRNG after the draws (R201; 90_conflicts.md C2). -/
def drawMasks (dpa : Bool) (x : Byte) : Masks × Byte :=
  let m := prngStep x
  if dpa then (masksFrom m m #v[m, m, m, m], m)
  else
    let mp := prngStep m
    let o0 := prngStep mp
    let o1 := prngStep o0
    let o2 := prngStep o1
    let o3 := prngStep o2
    (masksFrom m mp #v[o0, o1, o2, o3], o3)

/-- The masked inverse S-Box of m and m′: entry i ^ m′ is INV_SBOX[i] ^ m for every i, so entry y is INV_SBOX[y ^ m′] ^ m
(R31, R201, R202; log entry 16). -/
def maskedInvSbox (m mp : Byte) : Vector Byte 256 :=
  Vector.ofFn fun y : Fin 256 => invSbox (BitVec.ofNat 8 y.val ^^^ mp) ^^^ m

/-- MaskedLookup(x) = MSBOX[x] (R209). -/
def maskedLookup (t : Vector Byte 256) (x : Byte) : Byte := t[x.toNat]

/-- The state with the masks drawn from its PRNG and the masked S-Box built (R201). -/
def State.drawnMasks (s : State) : State :=
  let d := drawMasks s.dpa s.prng
  ((s.setPrng d.2).setMasks d.1).setMsbox (maskedInvSbox d.1.sbmIn d.1.sbmOut)

/-- MASK_INIT's effect (R201). -/
def maskInit (s : State) : Effect := seeding s fun t => .done t.drawnMasks

/-- MASK_INIT (R201). -/
def execMaskInit (s : State) : Host.Outcome State Fault Refusal := settle s (maskInit s)

/-- A round key masked: byte j XOR MCM_OUT[j mod 4] XOR SBM_IN (R205). -/
def maskRoundKey (m : Masks) (k : Block) : Block :=
  Vector.ofFn fun j : Fin 16 => k[j] ^^^ m.mcmOut[flatRow j] ^^^ m.sbmIn

/-- The masked sub-key table (R205). -/
def maskedTable (m : Masks) (rk : Vector Block Config.nRoundKeys) : Vector Block Config.nRoundKeys :=
  Vector.ofFn fun i : Fin Config.nRoundKeys => maskRoundKey m rk[i]

/-- MASK_SUBKEYS's effect (R205). -/
def maskSubkeys (s : State) : Effect := reading [.masks] s (.done (s.setMrk (maskedTable s.masks s.rk)))

/-- MASK_SUBKEYS (R205). -/
def execMaskSubkeys (s : State) : Host.Outcome State Fault Refusal := settle s (maskSubkeys s)

/-- The state matrix with `mask r` XORed into every byte of row `r`. -/
def xorRows (mask : Fin 4 → Byte) (m : StateMatrix) : StateMatrix := StateMatrix.ofFn fun r c => m.get r c ^^^ mask r

/-- The row masks of INV_MASK_STATE: m_{row+1}′ ^ m ^ m′ (R206). -/
def Masks.first (k : Masks) (r : Fin 4) : Byte := k.mcmOut[r] ^^^ k.sbmIn ^^^ k.sbmOut

/-- The row masks of INV_REMASK_STATE: m_{row+1} ^ m′ (R207). -/
def Masks.again (k : Masks) (r : Fin 4) : Byte := k.mcmIn[r] ^^^ k.sbmOut

/-- The row masks of INV_UNMASK_STATE: m_{row+1}′ (R208). -/
def Masks.last (k : Masks) (r : Fin 4) : Byte := k.mcmOut[r]

/-- INV_MASK_STATE's effect (R206). -/
def invMaskState (s : State) : Effect :=
  reading [.state, .masks] s (.done (s.setState (xorRows s.masks.first s.state)))

/-- INV_MASK_STATE (R206). -/
def execInvMaskState (s : State) : Host.Outcome State Fault Refusal := settle s (invMaskState s)

/-- INV_REMASK_STATE's effect (R207). -/
def invRemaskState (s : State) : Effect :=
  reading [.state, .masks] s (.done (s.setState (xorRows s.masks.again s.state)))

/-- INV_REMASK_STATE (R207). -/
def execInvRemaskState (s : State) : Host.Outcome State Fault Refusal := settle s (invRemaskState s)

/-- INV_UNMASK_STATE's effect (R208). -/
def invUnmaskState (s : State) : Effect :=
  reading [.state, .masks] s (.done (s.setState (xorRows s.masks.last s.state)))

/-- INV_UNMASK_STATE (R208). -/
def execInvUnmaskState (s : State) : Host.Outcome State Fault Refusal := settle s (invUnmaskState s)

/-- RD_MSBOX: RES <- MaskedLookup(A); every A is in range (R210). -/
def execRdMsbox (a : Byte) (s : State) : Host.Outcome State Fault Refusal :=
  settle s (reading [.msbox] s (.done (s.setRes (maskedLookup s.msbox a))))

end Sys2Proof.Machine
end

