-- ==== Sys2Proof/Machine/AesCore.lean ====
section
/-! DEFINITION. The AES core (45_aes_core.md): key schedule, state load and store, the inverse round layers and DECRYPT's
micro-program. -/

namespace Sys2Proof.Machine

/-! ### Key schedule, load, store -/

/-- KEY_EXPAND's effect: RK <- KeyExpand(KEY); MRK is not changed (R261). -/
def expandKey (s : State) : Effect := .done (s.setRk (keyExpand s.key))

/-- KEY_EXPAND (R261). -/
def execKeyExpand (s : State) : Host.Outcome State Fault Refusal := settle s (expandKey s)

/-- LOAD_STATE's effect: STATE[r][c] <- DATA[4*c + r] (R263). -/
def loadState (s : State) : Effect := reading dataElements s (.done (s.setState (matrixOfBlock s.data)))

/-- LOAD_STATE (R263). -/
def execLoadState (s : State) : Host.Outcome State Fault Refusal := settle s (loadState s)

/-- STORE_STATE's effect: DATA[4*c + r] <- STATE[r][c] (R264). -/
def storeState (s : State) : Effect := reading [.state] s (.done (s.setData (blockOfMatrix s.state)))

/-- STORE_STATE (R264). -/
def execStoreState (s : State) : Host.Outcome State Fault Refusal := settle s (storeState s)

/-! ### The layers as functions of the state matrix -/

/-- STATE[r][c] ^ K[4*c + r] (R266). -/
def xorRoundKey (k : Block) (m : StateMatrix) : StateMatrix := StateMatrix.ofFn fun r c => m.get r c ^^^ k[flatIndex r c]

/-- Row r rotated right by r (R267). -/
def shiftRowsRight (m : StateMatrix) : StateMatrix := Vector.ofFn fun r : Fin 4 => rotrRow m[r] r.val

/-- The byte at flat index k substituted (R268, one turn of the loop). -/
def substituteAt (sub : Byte → Byte) (m : StateMatrix) (k : Fin 16) : StateMatrix :=
  m.put (flatRow k) (flatCol k) (sub (m.get (flatRow k) (flatCol k)))

/-- The bytes substituted in the given order (R268). -/
def substituteBytes (sub : Byte → Byte) (order : List (Fin 16)) (m : StateMatrix) : StateMatrix :=
  order.foldl (substituteAt sub) m

/-- Every column mapped by InvMixColumn, from the old state (R270). -/
def unmixColumns (m : StateMatrix) : StateMatrix :=
  StateMatrix.ofFn fun r c => (invMixColumn #v[m.get 0 c, m.get 1 c, m.get 2 c, m.get 3 c])[r]

/-! ### The layer commands -/

/-- RoundKey(i): MRK[i] with CFG.MASKING = 1, else RK[i] (R265). -/
def State.roundKey (s : State) (i : Fin Config.nRoundKeys) : Block := if s.masking then s.mrk[i] else s.rk[i]

/-- What ADD_ROUND_KEY reads that may be unwritten: the selected table, then STATE (R266). -/
def State.roundKeyElements (s : State) : List Element := if s.masking then [.mrk, .state] else [.state]

/-- ADD_ROUND_KEY's effect with round number i: prefix, then the XOR (R266). -/
def addRoundKey (i : Fin Config.nRoundKeys) (s : State) : Effect :=
  (dummyPrefixLinear s).andThen fun t =>
    reading t.roundKeyElements t (.done (t.setState (xorRoundKey (t.roundKey i) t.state)))

/-- ADD_ROUND_KEY (R266). -/
def execAddRoundKey (a : Byte) (s : State) : Host.Outcome State Fault Refusal :=
  settle s (operand Config.nRoundKeys a s fun i => addRoundKey i s)

/-- INV_SHIFT_ROWS's effect (R267). -/
def invShiftRows (s : State) : Effect :=
  (dummyPrefixLinear s).andThen fun t => reading [.state] t (.done (t.setState (shiftRowsRight t.state)))

/-- INV_SHIFT_ROWS (R267). -/
def execInvShiftRows (s : State) : Host.Outcome State Fault Refusal := settle s (invShiftRows s)

/-- The order in which INV_BYTE_SUB visits the bytes: PERM with CFG.SHUFFLING = 1, else 0..15 (R268, R269). -/
def State.accessOrder (s : State) : List (Fin 16) := if s.shuffling then s.perm.toList else List.finRange 16

/-- The substitution INV_BYTE_SUB uses: MSBOX with CFG.MASKING = 1, else INV_SBOX (R268). -/
def State.substitution (s : State) : Byte → Byte := if s.masking then maskedLookup s.msbox else invSbox

/-- What INV_BYTE_SUB reads that may be unwritten: PERM when shuffling, STATE, MSBOX when masking (R268). -/
def State.byteSubElements (s : State) : List Element :=
  (if s.shuffling then [.perm] else []) ++ [.state] ++ (if s.masking then [.msbox] else [])

/-- INV_BYTE_SUB's effect: CFG is read when it executes (R268). -/
def invByteSub (s : State) : Effect :=
  (dummyPrefixSub s).andThen fun t =>
    reading t.byteSubElements t (.done (t.setState (substituteBytes t.substitution t.accessOrder t.state)))

/-- INV_BYTE_SUB (R268). -/
def execInvByteSub (s : State) : Host.Outcome State Fault Refusal := settle s (invByteSub s)

/-- INV_MIX_COLS's effect (R270). -/
def invMixCols (s : State) : Effect :=
  (dummyPrefixLinear s).andThen fun t => reading [.state] t (.done (t.setState (unmixColumns t.state)))

/-- INV_MIX_COLS (R270). -/
def execInvMixCols (s : State) : Host.Outcome State Fault Refusal := settle s (invMixCols s)

/-! ### DECRYPT -/

/-- A line of the micro-program (R275): a command, performed within DECRYPT's step. -/
inductive MicroOp where
  | keyExpand
  | loadState
  | maskInit
  | maskSubkeys
  | invMaskState
  | hidingInit
  | shuffleSboxAccess
  | addRoundKey (i : Fin Config.nRoundKeys)
  | invShiftRows
  | invByteSub
  | invMixCols
  | invRemaskState
  | invUnmaskState
  | storeState
  deriving DecidableEq, Repr

/-- "Each line performs the named command's rule" (R275). -/
def perform : MicroOp → State → Effect
  | .keyExpand, s => expandKey s
  | .loadState, s => loadState s
  | .maskInit, s => maskInit s
  | .maskSubkeys, s => maskSubkeys s
  | .invMaskState, s => invMaskState s
  | .hidingInit, s => hidingInit s
  | .shuffleSboxAccess, s => shuffleSboxAccess s
  | .addRoundKey i, s => addRoundKey i s
  | .invShiftRows, s => invShiftRows s
  | .invByteSub, s => invByteSub s
  | .invMixCols, s => invMixCols s
  | .invRemaskState, s => invRemaskState s
  | .invUnmaskState, s => invUnmaskState s
  | .storeState, s => storeState s

/-- The lines in order; a raise ends the micro-program (R275). -/
def performAll : List MicroOp → State → Effect
  | [], s => .done s
  | op :: rest, s => (perform op s).andThen (performAll rest)

/-- One of the rounds 9 to 1 (R275). -/
def microRound (masking : Bool) (i : Fin Config.nRoundKeys) : List MicroOp :=
  [.addRoundKey i, .invMixCols] ++ (if masking then [.invRemaskState] else []) ++ [.invShiftRows, .invByteSub]

/-- The micro-program for the CFG flags MASKING, SHUFFLING and DUMMY_OPS (R275). -/
def microProgram (masking shuffling dummyOps : Bool) : List MicroOp :=
  [.keyExpand, .loadState]
  ++ (if masking then [.maskInit, .maskSubkeys, .invMaskState] else [])
  ++ (if shuffling || dummyOps then [.hidingInit] else [])
  ++ (if shuffling then [.shuffleSboxAccess] else [])
  ++ [.addRoundKey 10, .invShiftRows, .invByteSub]
  ++ ([9, 8, 7, 6, 5, 4, 3, 2, 1] : List (Fin Config.nRoundKeys)).flatMap (microRound masking)
  ++ [.addRoundKey 0]
  ++ (if masking then [.invUnmaskState] else [])
  ++ [.storeState]

/-- The micro-program of the current CFG, read once at the start (R275). -/
def State.microProgram (s : State) : List MicroOp := Machine.microProgram s.masking s.shuffling s.dummyOps

/-- DECRYPT: the micro-program in one step, all-or-nothing (R275). -/
def execDecrypt (s : State) : Host.Outcome State Fault Refusal := settle s (performAll s.microProgram s)

end Sys2Proof.Machine
end

