-- ==== Sys2Proof/Machine/HostAccess.lean ====
section
/-! DEFINITION. Host access and status commands (40_host_access.md). -/

namespace Sys2Proof.Machine

/-- NOP (R130). -/
def execNop (s : State) : Host.Outcome State Fault Refusal := settle s (.done s)

/-- CLRSTAT (R131). -/
def execClrstat (s : State) : Host.Outcome State Fault Refusal := settle s (.done s.clearErrors)

/-- RDSTAT: RES <- STATUS (R132). -/
def execRdstat (s : State) : Host.Outcome State Fault Refusal := settle s (.done (s.setRes s.status))

/-- RCFG: RES <- zext_8(CFG[3:0]) (R133). -/
def execRcfg (s : State) : Host.Outcome State Fault Refusal := settle s (.done (s.setRes (cfgValue s.cfg)))

/-- WCFG: CFG <- zext_8(B[3:0]) (R134). -/
def execWcfg (b : Byte) (s : State) : Host.Outcome State Fault Refusal := settle s (.done (s.setCfg (cfgValue b)))

/-- WKEY: KEY[A] <- B (R135). -/
def execWkey (a b : Byte) (s : State) : Host.Outcome State Fault Refusal :=
  settle s (operand 16 a s fun i => .done (s.setKeyByte i b))

/-- WDATA: DATA[A] <- B (R136). -/
def execWdata (a b : Byte) (s : State) : Host.Outcome State Fault Refusal :=
  settle s (operand 16 a s fun i => .done (s.setDataByte i b))

/-- RDATA: RES <- DATA[A] (R137). -/
def execRdata (a : Byte) (s : State) : Host.Outcome State Fault Refusal :=
  settle s (operand 16 a s fun i => reading [.data i] s (.done (s.setRes s.data[i])))

end Sys2Proof.Machine
end

