-- ==== Sys2Proof/Machine/Transport.lean ====
section
/-! DEFINITION. The T=0 transceiver (46_t0_transport.md): the commands TX_BYTE and RX_BYTE, the steps of the foreground
sequencer, the pin-change detector, the timer with its handler, and the terminal's write. -/

namespace Sys2Proof.Machine

/-! ### Match values (R8)

ETU_TICKS and FUDGE are open parameters without a stated range. DESIGN CHOICE (log entry 21): a value above 65535 is taken
modulo 2^16, and where FUDGE exceeds the ticks it is subtracted from the difference is 0. -/

/-- ETU_TICKS as a match value; above 65535 modulo 2^16 (DESIGN CHOICE, log entry 21). -/
def etuMatch (p : Params) : Word16 := BitVec.ofNat 16 p.etuTicks

/-- RX_FIRST_MATCH = (3*ETU_TICKS) div 2 - FUDGE (R8); 0 where FUDGE is the greater, above 65535 modulo 2^16 (DESIGN CHOICE,
log entry 21). -/
def rxFirstMatch (p : Params) : Word16 := BitVec.ofNat 16 (3 * p.etuTicks / 2 - p.fudge)

/-- ERR_MATCH = ETU_TICKS - FUDGE (R8); 0 where FUDGE is the greater, above 65535 modulo 2^16 (DESIGN CHOICE, log entry
21). -/
def errMatch (p : Params) : Word16 := BitVec.ofNat 16 (p.etuTicks - p.fudge)

/-! ### Transmit -/

/-- FrameBit(b, i): start bit 0, data LSB first, even parity, stop bit 1 (R301). -/
def frameBit (b : Byte) (i : Nat) : Bool :=
  if i = 0 then false
  else if i ≤ 8 then b.getLsbD (i - 1)
  else if i = 9 then parityBit b
  else true

/-- TxStart() (R300). -/
def txStart (p : Params) (x : Xcvr) : Xcvr :=
  { x with
    dir := .output, pcie := false, ocr := etuMatch p, tcnt := 0, trun := true, txIdx := 0,
    outputBit := frameBit x.txb 0, bitSent := false, fg := .txBit }

/-- TX_BYTE, its issuing step: TXB <- A, then TxStart() (R300). -/
def execTxByte (a : Byte) (s : State) : Host.Outcome State Fault Refusal :=
  settle s (.done (s.setXcvr (txStart s.params { s.xcvr with txb := a })))

/-- The step TX_BIT: the next frame bit, or after the stop bit the guard interval (R301). -/
def txBitStep (p : Params) (x : Xcvr) : Xcvr :=
  if x.txIdx < 10 then
    { x with txIdx := x.txIdx + 1, outputBit := frameBit x.txb (x.txIdx + 1), bitSent := false }
  else { x with dir := .input, ocr := errMatch p, checkErrors := true, fg := .txCheck }

/-- The step TX_CHECK: ACK completes TX_BYTE, NACK retransmits TXB (R301, R386). -/
def txCheckStep (p : Params) (x : Xcvr) : Xcvr :=
  if x.errorBit then { x with trun := false, fg := .idle } else txStart p x

/-! ### Receive -/

/-- RX_BYTE's issuing step on the transceiver (R302). -/
def rxStart (x : Xcvr) : Xcvr :=
  { x with
    dir := .input, byteReceived := false, inputBitCounter := 0, inputByte := 0x00, parityError := false, pcie := true,
    fg := .rxWait }

/-- RX_BYTE, its issuing step (R302). -/
def execRxByte (s : State) : Host.Outcome State Fault Refusal := settle s (.done (s.setXcvr (rxStart s.xcvr)))

/-! ### The foreground sequencer -/

/-- Whether the foreground sequencer has a step (R301, R303). -/
def Xcvr.foregroundEnabled (x : Xcvr) : Bool :=
  match x.fg with
  | .idle => false
  | .txBit => x.bitSent
  | .txCheck => !x.checkErrors
  | .rxWait => x.byteReceived

/-- The step of the current phase (R301, R303). -/
def foregroundAct (s : State) : State :=
  match s.xcvr.fg with
  | .idle => s
  | .txBit => s.setXcvr (txBitStep s.params s.xcvr)
  | .txCheck => s.setXcvr (txCheckStep s.params s.xcvr)
  | .rxWait => (s.setRes s.xcvr.inputByte).setXcvr { s.xcvr with byteReceived := false, fg := .idle }

/-- The foreground sequencer's move: its step where enabled, else none. -/
def foregroundStep (s : State) : State := if s.xcvr.foregroundEnabled then foregroundAct s else s

/-! ### The pin-change detector -/

/-- PinChangeHandler(): acts on a falling edge while receiving (R306). -/
def pinChangeHandler (p : Params) (x : Xcvr) : Xcvr :=
  if x.line = false ∧ x.dir = .input then
    { x with
      pcie := false, tcnt := 0, ocr := rxFirstMatch p, trun := true, inputBitCounter := 0, inputByte := 0x00,
      parityError := false }
  else x

/-- Whether the step PINCHANGE is enabled: LINE ≠ LINE_PREV (R306). -/
def Xcvr.edgeSeen (x : Xcvr) : Bool := x.line != x.linePrev

/-- The step PINCHANGE (R306). -/
def pinChangeAct (p : Params) (x : Xcvr) : Xcvr :=
  let y := { x with linePrev := x.line }
  if y.pcie then pinChangeHandler p y
  else if p.pcintLatch then { y with pcPend := true }
  else y

/-- The detector's move: PINCHANGE where enabled, else none. -/
def pinChangeStep (s : State) : State :=
  if s.xcvr.edgeSeen then s.setXcvr (pinChangeAct s.params s.xcvr) else s

/-- Whether the step PINPEND is enabled (R307). -/
def edgePending (p : Params) (x : Xcvr) : Bool := p.pcintLatch && x.pcie && x.pcPend

/-- The step PINPEND where enabled, else none (R307). -/
def pendingEdgeStep (s : State) : State :=
  if edgePending s.params s.xcvr then s.setXcvr (pinChangeHandler s.params { s.xcvr with pcPend := false }) else s

/-! ### The timer and its handler -/

/-- `draw SAMPLE()`: LINE under GLITCH_FREE, else the line oracle's next answer (R305). -/
def State.sample (s : State) : Bool := if s.params.glitchFree then s.xcvr.line else s.env.nextSample

/-- The state after one SAMPLE. -/
def State.afterSample (s : State) : State := if s.params.glitchFree then s else s.setEnv s.env.afterSample

/-- ErrorSample(): one read, 1 = ACK (R311). -/
def errorSample (s : State) : State :=
  s.afterSample.setXcvr { s.xcvr with errorBit := s.sample, checkErrors := false }

/-- NackRelease() (R312). -/
def nackRelease (x : Xcvr) : Xcvr :=
  { x with
    lineDrv := true, dir := .input, nackDriven := false, parityError := false, trun := false, inputBitCounter := 0,
    inputByte := 0x00, pcie := true }

/-- NackDrive() (R313). -/
def nackDrive (x : Xcvr) : Xcvr := { x with lineDrv := false, nackDriven := true }

/-- TxLatch() (R314). -/
def txLatch (x : Xcvr) : Xcvr := { x with lineDrv := x.outputBit, bitSent := true }

/-- ParityCheck(v) (R316). -/
def parityCheck (v : Bool) (x : Xcvr) : Xcvr :=
  if v = parityBit x.inputByte then { x with trun := false, byteReceived := true, inputBitCounter := 9 }
  else { x with parityError := true, dir := .output, lineDrv := true, inputBitCounter := 9 }

/-- OCR <- ETU_TICKS after the first data-bit sample (R315). -/
def rxRetime (p : Params) (x : Xcvr) : Xcvr := if x.inputBitCounter = 0 then { x with ocr := etuMatch p } else x

/-- One received bit v: a data bit LSB first, the parity bit, or nothing (R315). -/
def rxBit (v : Bool) (x : Xcvr) : Xcvr :=
  if x.inputBitCounter ≤ 7 then
    { x with
      inputByte := x.inputByte ||| (zext8 v <<< x.inputBitCounter), inputBitCounter := x.inputBitCounter + 1 }
  else if x.inputBitCounter = 8 then parityCheck v x
  else x

/-- RxSample(): the majority of three reads, then the bit (R315). -/
def rxSample (s : State) : State :=
  let s1 := s.afterSample
  let s2 := s1.afterSample
  s2.afterSample.setXcvr (rxBit (maj3 s.sample s1.sample s2.sample) (rxRetime s.params s.xcvr))

/-- TimerHandler(): the first branch whose condition holds (R310). -/
def timerHandler (s : State) : State :=
  if s.xcvr.checkErrors then errorSample s
  else if s.xcvr.nackDriven then s.setXcvr (nackRelease s.xcvr)
  else if s.xcvr.dir = .output ∧ s.xcvr.parityError then s.setXcvr (nackDrive s.xcvr)
  else if s.xcvr.dir = .output then s.setXcvr (txLatch s.xcvr)
  else rxSample s

/-- The step TICK, with a match's handler in the same step (R308). -/
def timerAct (s : State) : State :=
  if s.xcvr.tcnt + 1 = s.xcvr.ocr then timerHandler (s.setXcvr { s.xcvr with tcnt := 0 })
  else s.setXcvr { s.xcvr with tcnt := s.xcvr.tcnt + 1 }

/-- The timer's move: TICK where TRUN = 1, else none (R308). -/
def timerStep (s : State) : State := if s.xcvr.trun then timerAct s else s

/-! ### The terminal -/

/-- The terminal writes TERM (R46, R317). -/
def terminalStep (level : Bool) (s : State) : State := s.setXcvr { s.xcvr with term := level }

end Sys2Proof.Machine
end

