-- ==== Sys2Proof/Machine/Dispatch.lean ====
section
/-! DEFINITION. The meaning of each command (R105, R110 "perform the rule the row names, with A and B"). -/

namespace Sys2Proof.Machine

def exec (i : Instr) (s : State) : Host.Outcome State Fault Refusal :=
  match i with
  | .nop => Sys2Proof.Machine.execNop s
  | .clrstat => Sys2Proof.Machine.execClrstat s
  | .rdstat => Sys2Proof.Machine.execRdstat s
  | .wkey a b => Sys2Proof.Machine.execWkey a b s
  | .wdata a b => Sys2Proof.Machine.execWdata a b s
  | .rdata a => Sys2Proof.Machine.execRdata a s
  | .wcfg b => Sys2Proof.Machine.execWcfg b s
  | .rcfg => Sys2Proof.Machine.execRcfg s
  | .ffmul a b => Sys2Proof.Machine.execFfmul a b s
  | .parity a => Sys2Proof.Machine.execParity a s
  | .rotrRow a b => Sys2Proof.Machine.execRotrRow a b s
  | .prngSeed => Sys2Proof.Machine.execPrngSeed s
  | .prngNext => Sys2Proof.Machine.execPrngNext s
  | .maj3 a => Sys2Proof.Machine.execMaj3 a s
  | .keyExpand => Sys2Proof.Machine.execKeyExpand s
  | .loadState => Sys2Proof.Machine.execLoadState s
  | .storeState => Sys2Proof.Machine.execStoreState s
  | .addRoundKey a => Sys2Proof.Machine.execAddRoundKey a s
  | .invShiftRows => Sys2Proof.Machine.execInvShiftRows s
  | .invByteSub => Sys2Proof.Machine.execInvByteSub s
  | .invMixCols => Sys2Proof.Machine.execInvMixCols s
  | .decrypt => Sys2Proof.Machine.execDecrypt s
  | .maskInit => Sys2Proof.Machine.execMaskInit s
  | .maskSubkeys => Sys2Proof.Machine.execMaskSubkeys s
  | .invMaskState => Sys2Proof.Machine.execInvMaskState s
  | .invRemaskState => Sys2Proof.Machine.execInvRemaskState s
  | .invUnmaskState => Sys2Proof.Machine.execInvUnmaskState s
  | .rdMsbox a => Sys2Proof.Machine.execRdMsbox a s
  | .hidingInit => Sys2Proof.Machine.execHidingInit s
  | .shuffleSboxAccess => Sys2Proof.Machine.execShuffleSboxAccess s
  | .dummyOp => Sys2Proof.Machine.execDummyOp s
  | .txByte a => Sys2Proof.Machine.execTxByte a s
  | .rxByte => Sys2Proof.Machine.execRxByte s

end Sys2Proof.Machine
end

