-- ==== Sys2Proof/Machine/Agents.lean ====
section
/-! DEFINITION. The agents' moves and which agent moves next (R15, R110, R389, R430). -/

namespace Sys2Proof.Machine

/-! ### The host -/

/-- The word of an item, with RES of this moment where it uses RES (R360). -/
def HostItem.toWord (res : Byte) : HostItem → CmdWord
  | .word w => w
  | .resInA opc => commandWord opc res 0
  | .resInB opc a => commandWord opc a res

/-- Issue of a command word: decode it, raise IllegalCommand for an illegal OPC, else perform its rule, which checks the
operands first (R110, R381, R389). -/
def issue (w : CmdWord) (s : State) : Host.Outcome State Fault Refusal :=
  match decode w with
  | .ok i => exec i s
  | .error _ => .next (s.raise .illegalCommand)

/-- Whether the host has a step: FG = IDLE and a word to issue, or a loop to begin again (R110, R360). -/
def State.hostEnabled (s : State) : Bool :=
  (s.xcvr.fg == .idle) && (!s.env.cmds.isEmpty || !s.env.hostLoop.isEmpty)

/-- The host's move: issue the oldest word; begin the loop again where none is left; none while FG ≠ IDLE (R110, R360). -/
def hostStep (s : State) : Host.Outcome State Fault Refusal :=
  if s.xcvr.fg = .idle then
    match s.env.cmds with
    | item :: rest => issue (item.toWord s.res) (s.setEnv { s.env with cmds := rest })
    | [] => .next (s.setEnv { s.env with cmds := s.env.hostLoop })
  else .next s

/-! ### Any agent -/

/-- One agent's move. An agent without an enabled step changes nothing (R389; log entry 15). -/
def move : Agent → State → Host.Outcome State Fault Refusal
  | .host, s => hostStep s
  | .foreground, s => .next (foregroundStep s)
  | .pinChange, s => .next (pinChangeStep s)
  | .pendingEdge, s => .next (pendingEdgeStep s)
  | .timer, s => .next (timerStep s)
  | .terminal level, s => .next (terminalStep level s)

/-! ### The prompt schedule -/

/-- The terminal's next write where it is due, with the writes after it (log entry 12). -/
def Env.dueWrite (e : Env) : Option (Bool × List (Nat × Bool)) :=
  match e.termScript with
  | (0, level) :: rest => some (level, rest)
  | _ => none

/-- One clock unit of the terminal's script. -/
def Env.clockUnit (e : Env) : Env :=
  match e.termScript with
  | (n + 1, level) :: rest => { e with termScript := (n, level) :: rest }
  | _ => e

/-- One clock unit: the terminal's script advances and the timer ticks where it runs (95_test_vectors conventions: "the
timer takes one tick step per clock unit while TRUN = 1"). -/
def clockUnit (s : State) : State := timerStep (s.setEnv s.env.clockUnit)

/-- The step under PROMPT: the terminal's due write, else an enabled step of the foreground, the detector or the host,
else one clock unit (R430; log entry 11). -/
def promptStep (s : State) : Host.Outcome State Fault Refusal :=
  match s.env.dueWrite with
  | some (level, rest) => .next (terminalStep level (s.setEnv { s.env with termScript := rest }))
  | none =>
    if s.xcvr.foregroundEnabled then .next (foregroundStep s)
    else if s.xcvr.edgeSeen then .next (pinChangeStep s)
    else if edgePending s.params s.xcvr then .next (pendingEdgeStep s)
    else if s.hostEnabled then hostStep s
    else .next (clockUnit s)

/-- The agent that moves: the agenda's oldest; where the agenda is empty, PROMPT's, or without PROMPT a free choice
(R389, R430). -/
def turn (s : State) : Host.Outcome State Fault Refusal :=
  match s.env.agenda with
  | a :: rest => move a (s.setEnv { s.env with agenda := rest })
  | [] =>
    if s.params.prompt then promptStep s
    else move (Config.freeAgent s.env.turns) (s.setEnv { s.env with turns := s.env.turns + 1 })

/-- The state whose very next move is the host's issue of `w` (R100, R110; log entry 14). -/
def State.withCommand (s : State) (w : CmdWord) : State :=
  { s with
    xcvr := { s.xcvr with fg := .idle }
    env := { s.env with cmds := .word w :: s.env.cmds, agenda := .host :: s.env.agenda } }

end Sys2Proof.Machine
end

