-- ==== Sys2Proof/Machine/Step.lean ====
section
/-! DEFINITION. One step of the machine: one agent's atomic move (R78, R80, R389). -/

namespace Sys2Proof.Machine

/-- One atomic step of the agent whose turn it is. -/
def step (s : State) : Host.Outcome State Fault Refusal := turn s

/-- `s` with the command whose word has the bits `w` (the bits at or above `nbits` are 0) as the next the host issues, the
host idle and next to move. -/
def State.withFetchWord (s : State) (nbits w : Nat) : State := s.withCommand (BitVec.ofNat 24 (w % 2 ^ nbits))

end Sys2Proof.Machine
end

