-- ==== Sys2Proof/Machine/Pseudo.lean ====
section
/-! DEFINITION. The pseudo-instructions and their expansions (30_encoding.md R109), as lists of commands. -/

namespace Sys2Proof.Machine

/-- An index as an operand byte. -/
def indexByte {n : Nat} (i : Fin n) : Byte := BitVec.ofNat 8 i.val

/-- LDKEY k0, ..., k15 (R109). -/
def ldKey (k : Block) : List Instr := (List.finRange 16).map fun i => .wkey (indexByte i) k[i]

/-- LDBLK d0, ..., d15 (R109). -/
def ldBlk (d : Block) : List Instr := (List.finRange 16).map fun i => .wdata (indexByte i) d[i]

/-- RDBLK (R109). -/
def rdBlk : List Instr := (List.finRange 16).map fun i => .rdata (indexByte i)

/-- TXSEQ b1, ..., bn (R109). -/
def txSeq (bs : List Byte) : List Instr := bs.map .txByte

/-- RXN n (R109). -/
def rxN (n : Nat) : List Instr := List.replicate n .rxByte

/-- The command a line of the micro-program names (R275). -/
def MicroOp.toInstr : MicroOp → Instr
  | .keyExpand => .keyExpand
  | .loadState => .loadState
  | .maskInit => .maskInit
  | .maskSubkeys => .maskSubkeys
  | .invMaskState => .invMaskState
  | .hidingInit => .hidingInit
  | .shuffleSboxAccess => .shuffleSboxAccess
  | .addRoundKey i => .addRoundKey (indexByte i)
  | .invShiftRows => .invShiftRows
  | .invByteSub => .invByteSub
  | .invMixCols => .invMixCols
  | .invRemaskState => .invRemaskState
  | .invUnmaskState => .invUnmaskState
  | .storeState => .storeState

/-- DECRYPT_UNROLLED for the current CFG (R109, R276). -/
def State.decryptUnrolled (s : State) : List Instr := s.microProgram.map MicroOp.toInstr

/-- Commands performed one after another, each in a host step of its own, with no other agent's step between. -/
def execAll : List Instr → State → Host.Outcome State Fault Refusal
  | [], s => .next s
  | i :: rest, s =>
    match exec i s with
    | .next t => execAll rest t
    | .fault f => .fault f
    | .refused r => .refused r

end Sys2Proof.Machine
end

