-- ==== Sys2Proof/Machine/Protocol.lean ====
section
/-! DEFINITION. The reference host program (47_protocol.md R360) as words of the host agent. It is not part of the block
(R6); its `goto loop` is `env.hostLoop`, and its use of RES as an operand is HostItem's. The comparison of the received
headers has no effect in a release build (R367), so no step stands for it (log entry 14). -/

namespace Sys2Proof.Machine

/-- A command as a host word. -/
def hostCommand (i : Instr) : HostItem := .word (encode i)

/-- The ATR, emitted once before the loop (R361). -/
def atrBytes : List Byte := [0x3B, 0x90, 0x11, 0x00]

/-- The header the terminal sends before the ciphertext (R363). -/
def dataInHeader : List Byte := [0x88, 0x10, 0x00, 0x00, 0x10]

/-- The header the terminal sends before it receives the plaintext (R366). -/
def dataOutHeader : List Byte := [0x88, 0xC0, 0x00, 0x00, 0x10]

/-- One ciphertext byte: ACK_DATA_IN, the byte, its place in DATA (R360, R363). -/
def receiveDataByte (i : Fin 16) : List HostItem :=
  [hostCommand (.txByte 0xEF), hostCommand .rxByte, .resInB 0x11 (indexByte i)]

/-- One plaintext byte (R360, R366). -/
def sendDataByte (i : Fin 16) : List HostItem := [hostCommand (.rdata (indexByte i)), .resInA 0x60]

/-- One pass of the loop (R360). -/
def referencePass : List HostItem :=
  (rxN 5).map hostCommand
  ++ (List.finRange 16).flatMap receiveDataByte
  ++ [hostCommand .decrypt]
  ++ (txSeq [0x61, 0x10]).map hostCommand
  ++ (rxN 5).map hostCommand
  ++ [hostCommand (.txByte 0xC0)]
  ++ (List.finRange 16).flatMap sendDataByte
  ++ (txSeq [0x9D, 0x00]).map hostCommand

/-- The state whose host runs the reference program from its start: the ATR, then the loop forever (R360, R362). -/
def State.withReferenceHost (s : State) : State :=
  { s with env := { s.env with cmds := (txSeq atrBytes).map hostCommand, hostLoop := referencePass } }

end Sys2Proof.Machine
end

