-- ==== Sys2Proof/Machine/Reference.lean ====
section
/-! DEFINITION. Reference ciphers that statements compare DECRYPT with (45_aes_core.md R277): the plain inverse cipher, free
of masks, orders and dummy ops, and the forward AES-128 cipher, `encrypt_reference`. No command uses this file. The forward
cipher is FIPS-197 from outside the spec: PRESUMED, log entry 18. -/

namespace Sys2Proof.Machine

/-- Every byte mapped by `f`. -/
def mapBytes (f : Byte → Byte) (m : StateMatrix) : StateMatrix := StateMatrix.ofFn fun r c => f (m.get r c)

/-- Right rotation of row r by r, element by element (R267). -/
def referenceInvShiftRows (m : StateMatrix) : StateMatrix := StateMatrix.ofFn fun r c => m.get r (c - r)

/-- The rounds `n` to 1 of the inverse cipher (R275). -/
def referenceInvRounds (k : Block) : Nat → StateMatrix → StateMatrix
  | 0, m => m
  | n + 1, m =>
    referenceInvRounds k n
      (mapBytes invSbox (referenceInvShiftRows (unmixColumns (xorRoundKey (roundKey k (n + 1)) m))))

/-- The plain inverse cipher of a block under a key: R275 with CFG = 0. -/
def referenceDecrypt (k d : Block) : Block :=
  blockOfMatrix
    (xorRoundKey (roundKey k 0)
      (referenceInvRounds k 9
        (mapBytes invSbox (referenceInvShiftRows (xorRoundKey (roundKey k 10) (matrixOfBlock d))))))

/-- The forward MixColumns matrix. -/
def mixTable : StateMatrix :=
  #v[#v[0x02, 0x03, 0x01, 0x01],
     #v[0x01, 0x02, 0x03, 0x01],
     #v[0x01, 0x01, 0x02, 0x03],
     #v[0x03, 0x01, 0x01, 0x02]]

/-- The forward MixColumns. -/
def mixColumns (m : StateMatrix) : StateMatrix :=
  StateMatrix.ofFn fun r c =>
    ffMul (mixTable.get r 0) (m.get 0 c) ^^^ ffMul (mixTable.get r 1) (m.get 1 c)
      ^^^ ffMul (mixTable.get r 2) (m.get 2 c) ^^^ ffMul (mixTable.get r 3) (m.get 3 c)

/-- The forward ShiftRows: row r rotated left by r. -/
def shiftRowsLeft (m : StateMatrix) : StateMatrix := StateMatrix.ofFn fun r c => m.get r (c + r)

/-- The rounds 1 to `n` of the forward cipher, after the first round key. -/
def referenceRounds (k : Block) : Nat → StateMatrix → StateMatrix
  | 0, m => m
  | n + 1, m =>
    xorRoundKey (roundKey k (n + 1)) (mixColumns (shiftRowsLeft (mapBytes sbox (referenceRounds k n m))))

/-- `encrypt_reference(K, P)`: AES-128 encryption of one block. -/
def referenceEncrypt (k p : Block) : Block :=
  blockOfMatrix
    (xorRoundKey (roundKey k 10)
      (shiftRowsLeft (mapBytes sbox (referenceRounds k 9 (xorRoundKey (roundKey k 0) (matrixOfBlock p))))))

end Sys2Proof.Machine
end

