-- ==== Sys2Proof/Safety.lean ====
section
/-! DEFINITION. What counts as a good state and the end of a run, in the terms the statements use. -/

namespace Sys2Proof.Machine

/-- The ranges the spec gives: CFG and STATUS bits 7:4 read 0, DCNT 0..40, inputBitCounter 0..9, TXIDX 0..10 (R22, R23,
R35, R42, R45). -/
structure State.InRange (s : State) : Prop where
  cfg_reserved : s.cfg.toNat < 16
  status_reserved : s.status.toNat < 16
  dcnt_le : s.dcnt ≤ 40
  counter_le : s.xcvr.inputBitCounter ≤ 9
  txIdx_le : s.xcvr.txIdx ≤ 10

/-- The masks belong together: MCM_IN is InvMixColumn of MCM_OUT (R203) and the masked S-Box is that of the mask registers
(R202), once MASK_INIT has written them. -/
structure State.MasksConsistent (s : State) : Prop where
  pairs : s.written.masks = true → s.masks.mcmIn = invMixColumn s.masks.mcmOut
  msbox_with_masks : s.written.msbox = true → s.written.masks = true
  identity : s.written.msbox = true →
    ∀ x : Byte, maskedLookup s.msbox (x ^^^ s.masks.sbmOut) = invSbox x ^^^ s.masks.sbmIn

/-- The sum of a schedule's entries. -/
def scheduleSum (t : Vector Byte Config.nDummy) : Nat := (t.toList.map BitVec.toNat).sum

/-- PERM is a permutation and SCHED sums to 100, once written (R33, R34, R238). -/
structure State.HidingConsistent (s : State) : Prop where
  perm_permutes : s.written.perm = true → s.perm.toList.Perm (List.finRange 16)
  sched_total : s.written.sched = true → scheduleSum s.sched = Config.maxNumberNoOps
  sched_entries : s.written.sched = true → ∀ i : Fin Config.nDummy, s.sched[i].toNat ≤ Config.maxNumberNoOps

/-- What the transceiver keeps under the prompt schedule, by phase (R393 with R310 to R316). -/
def Xcvr.Prompt (x : Xcvr) : Prop :=
  match x.fg with
  | .idle =>
    x.trun = false ∧ x.pcie = false ∧ x.checkErrors = false ∧ x.nackDriven = false ∧ x.parityError = false
  | .txBit =>
    x.trun = true ∧ x.pcie = false ∧ x.checkErrors = false ∧ x.nackDriven = false ∧ x.parityError = false
      ∧ x.dir = .output
  | .txCheck =>
    x.trun = true ∧ x.pcie = false ∧ x.nackDriven = false ∧ x.parityError = false ∧ x.dir = .input
  | .rxWait =>
    x.checkErrors = false ∧ (x.trun = true → x.pcie = false) ∧ (x.dir = .output ↔ x.parityError = true)
      ∧ (x.nackDriven = true → x.parityError = true)
      ∧ (x.byteReceived = true → x.trun = false ∧ x.pcie = false ∧ x.parityError = false)

/-- The next step is chosen by the premise PROMPT (R430). -/
def State.PromptTurn (s : State) : Prop := s.params.prompt = true ∧ s.env.agenda = []

/-- No handler is enabled (R423). -/
def Xcvr.quiet (x : Xcvr) : Bool := !x.trun && !(x.pcie && (x.edgeSeen || x.pcPend))

/-- A launch has ended: the host has issued its last word, FG = IDLE and no handler is enabled (R423). -/
def State.ended (s : State) : Bool :=
  s.env.cmds.isEmpty && s.env.hostLoop.isEmpty && (s.xcvr.fg == .idle) && s.xcvr.quiet

/-- Every byte of DATA can be read (R36, R422(2)). -/
def State.DataReadable (s : State) : Prop := ∀ i : Fin 16, s.readable (.data i) = true

/-- How many conversions a DECRYPT makes: eight for each seeding, MASK_INIT's and HIDING_INIT's (R186, R275). -/
def State.conversionsNeeded (s : State) : Nat :=
  (if s.masking then 8 else 0) + (if s.shuffling || s.dummyOps then 8 else 0)

/-- Whether a layer's dummy-op prefix performs a dummy op: under DUMMY_OPS, the prefixes of ADD_ROUND_KEY,
INV_SHIFT_ROWS and INV_MIX_COLS (`linear`) only without DPA (R235). -/
def State.prefixActive (s : State) (linear : Bool) : Bool := s.dummyOps && !(linear && s.dpa)

/-- An active prefix has a schedule entry to consume (R234). -/
def State.PrefixReady (s : State) (linear : Bool) : Prop :=
  s.prefixActive linear = true → s.dcnt < 40 ∧ s.readable .sched = true

/-- DCNT after a layer's prefix (R234, R235). -/
def State.dcntAfterPrefix (s : State) (linear : Bool) : Nat :=
  if s.prefixActive linear then s.dcnt + 1 else s.dcnt

/-- NOPCOUNT after a layer's prefix (R234, R235). -/
def State.nopCountAfterPrefix (s : State) (linear : Bool) : Word16 :=
  if s.prefixActive linear then s.nopCount + (s.sched.getD s.dcnt 0).setWidth 16 else s.nopCount

/-- The conversion the oracle makes after `t` more (R182). -/
def Env.conversionAt (e : Env) (t : Nat) : Conversion := e.adcQueue.getD t (Config.freeConversion (e.conversions + t))

/-- The environment after `n` conversions. -/
def Env.afterConversions (e : Env) (n : Nat) : Env :=
  { e with adcQueue := e.adcQueue.drop n, conversions := e.conversions + n }

/-- The next `n` conversions all answer (R182). -/
def State.EntropyAnswers (s : State) (n : Nat) : Prop :=
  ∀ t < n, s.params.entropyCanFail = true → (s.env.conversionAt t).unavailable = false

end Sys2Proof.Machine
end

