-- ==== Sys2Proof/Certificates/Slice0/Obligations.lean ====
section
/-! DEFINITION. The statements for the provers: what the commands and the agents' steps do, by the rules of spec/.
Where a statement says `s.readable e`, R36 is meant: the element has been written since reset, or strictReads is off and
the read returns the byte the element holds, as the hardware's does (log entry 2). -/

open Sys2Proof Sys2Proof.Machine

/-! ### Encoding and issue -/

/-- R105, R108: decoding the word of a command gives the command back, whatever its operands. -/
def Obligations.DecodeOfEncodeIsTheCommand : Prop := ∀ i : Instr, decode (encode i) = .ok i

/-- R102, R106, R107: a word whose OPC is in the opcode map decodes, and to the same command whatever its unused fields
hold; every other word is illegal. -/
def Obligations.DecodeFollowsOpcodeMap : Prop :=
  (∀ w : CmdWord, (∃ row ∈ opcodeMap, row.opc = fieldOpc w) → ∃ i, decode w = .ok i ∧ fieldOpc (encode i) = fieldOpc w) ∧
  (∀ w : CmdWord, (∀ row ∈ opcodeMap, row.opc ≠ fieldOpc w) → decode w = .error (.illegalCommand (fieldOpc w))) ∧
  (∀ row ∈ opcodeMap, ∀ w v : CmdWord, fieldOpc w = row.opc → fieldOpc v = row.opc →
    (row.usesA = true → fieldA w = fieldA v) → (row.usesB = true → fieldB w = fieldB v) → decode w = decode v)

/-- V-ENC-1, R108: words written out from the encoding. -/
def Obligations.SampleWordsDecode : Prop :=
  decode 0x00FFFF = .ok .nop ∧ decode 0x100316 = .ok (.wkey 3 0x16) ∧ decode 0x205783 = .ok (.ffmul 0x57 0x83) ∧
  decode 0x220101 = .ok (.rotrRow 1 1) ∧ decode 0x25FD00 = .ok (.maj3 5) ∧ decode 0x330A00 = .ok (.addRoundKey 10) ∧
  decode 0x3F1234 = .ok .decrypt ∧ decode 0x45FF00 = .ok (.rdMsbox 0xFF) ∧ decode 0x520000 = .ok .dummyOp ∧
  decode 0x603B00 = .ok (.txByte 0x3B) ∧ decode 0x3E0000 = .error (.illegalCommand 0x3E)

/-- R108: the assembler writes OPC, the used operands in the order A, B, and 0 in an unused field. -/
def Obligations.AssemblerEncodesOperands : Prop :=
  ∀ row ∈ opcodeMap, ∀ a b : Byte,
    assemble row.mnemonic ((if row.usesA then [a.toNat] else []) ++ (if row.usesB then [b.toNat] else []))
      = some (commandWord row.opc (if row.usesA then a else 0) (if row.usesB then b else 0))

/-- R110: when the host's oldest word decodes to a command and the host steps (the agenda says so, or PROMPT with no other
step enabled), the step takes the word from the queue and is the command's meaning. -/
def Obligations.StepRunsTheDecodedCommand : Prop :=
  ∀ (s : State) (item : HostItem) (rest : List HostItem) (i : Instr),
    s.xcvr.fg = .idle → s.env.cmds = item :: rest → decode (item.toWord s.res) = .ok i →
    (∀ later, s.env.agenda = .host :: later →
      step s = exec i { s with env := { s.env with agenda := later, cmds := rest } }) ∧
    (s.PromptTurn → s.env.dueWrite = none → s.xcvr.edgeSeen = false → edgePending s.params s.xcvr = false →
      step s = exec i { s with env := { s.env with cmds := rest } })

/-- R104, R110, R381: the host's step on a word whose OPC is in no row sets ERR_ILLEGAL and changes nothing else; while
FG ≠ IDLE the host has no step, in the model's form that its turn changes nothing but the agenda (log entry 15). -/
def Obligations.HostStepOnIllegalWordOrBusy : Prop :=
  ∀ (s : State) (later : List Agent), s.env.agenda = .host :: later →
    (∀ (item : HostItem) (rest : List HostItem), s.xcvr.fg = .idle → s.env.cmds = item :: rest →
      (∀ row ∈ opcodeMap, row.opc ≠ fieldOpc (item.toWord s.res)) →
      step s = .next { s with status := s.status ||| 0x01, env := { s.env with agenda := later, cmds := rest } }) ∧
    (s.xcvr.fg ≠ .idle → step s = .next { s with env := { s.env with agenda := later } })

/-- Log entry 14, the model's own: the step after withFetchWord is the meaning of the word's command, the host idle. -/
def Obligations.FetchWordIsTheNextCommand : Prop :=
  ∀ (s : State) (nbits w : Nat) (i : Instr), decodeTableWord nbits w = some i →
    step (s.withFetchWord nbits w) = exec i { s with xcvr := { s.xcvr with fg := .idle } }

/-! ### Host access and status -/

/-- R130, R131, R132: NOP, CLRSTAT and RDSTAT; bits 7:4 of STATUS read 0 in every state that meets InRange. -/
def Obligations.StatusCommands : Prop :=
  ∀ (w : CmdWord) (s : State),
    (fieldOpc w = 0x00 → decode w = .ok .nop) ∧ (fieldOpc w = 0x01 → decode w = .ok .clrstat) ∧
    (fieldOpc w = 0x02 → decode w = .ok .rdstat) ∧
    exec .nop s = .next s ∧
    exec .clrstat s = .next { s with status := 0x00 } ∧
    exec .rdstat s = .next { s with res := s.status } ∧
    (s.InRange → s.status.extractLsb' 4 4 = 0)

/-- R133, R134: RCFG returns CFG[3:0], WCFG writes B[3:0], each field from its bit. -/
def Obligations.ConfigurationCommands : Prop :=
  ∀ (w : CmdWord) (s : State),
    (fieldOpc w = 0x14 → decode w = .ok .rcfg) ∧ (fieldOpc w = 0x13 → decode w = .ok (.wcfg (fieldB w))) ∧
    exec .rcfg s = .next { s with res := (s.cfg.extractLsb' 0 4).setWidth 8 } ∧
    ∃ t, exec (.wcfg (fieldB w)) s = .next t ∧ t = { s with cfg := ((fieldB w).extractLsb' 0 4).setWidth 8 } ∧
      t.masking = (fieldB w).getLsbD 0 ∧ t.shuffling = (fieldB w).getLsbD 1 ∧ t.dummyOps = (fieldB w).getLsbD 2 ∧
      t.dpa = (fieldB w).getLsbD 3

/-- R135, R136: WKEY and WDATA write one byte each; RK and STATE are among what does not change; a byte of DATA counts as
written (R36). -/
def Obligations.WkeyAndWdataWriteOneByte : Prop :=
  ∀ (w : CmdWord) (s : State),
    (fieldOpc w = 0x10 → decode w = .ok (.wkey (fieldA w) (fieldB w))) ∧
    (fieldOpc w = 0x11 → decode w = .ok (.wdata (fieldA w) (fieldB w))) ∧
    (∀ h : (fieldA w).toNat < 16,
      exec (.wkey (fieldA w) (fieldB w)) s = .next { s with key := s.key.set (fieldA w).toNat (fieldB w) } ∧
      exec (.wdata (fieldA w) (fieldB w)) s = .next { s with
        data := s.data.set (fieldA w).toNat (fieldB w)
        written := { s.written with data := s.written.data.set (fieldA w).toNat true } }) ∧
    (15 < (fieldA w).toNat →
      exec (.wkey (fieldA w) (fieldB w)) s = .next { s with status := s.status ||| 0x02 } ∧
      exec (.wdata (fieldA w) (fieldB w)) s = .next { s with status := s.status ||| 0x02 })

/-- R137; UnwrittenRead is UnwrittenReadFaults. -/
def Obligations.RdataReadsOneDataByte : Prop :=
  ∀ (w : CmdWord) (s : State), fieldOpc w = 0x12 →
    decode w = .ok (.rdata (fieldA w)) ∧
    (∀ h : (fieldA w).toNat < 16, s.readable (.data ⟨(fieldA w).toNat, h⟩) = true →
      exec (.rdata (fieldA w)) s = .next { s with res := s.data[(fieldA w).toNat] }) ∧
    (15 < (fieldA w).toNat → exec (.rdata (fieldA w)) s = .next { s with status := s.status ||| 0x02 })

/-! ### Arithmetic units -/

/-- R150, R151: doubling is R150's shift and reduction; multiplication is commutative, associative, distributes over XOR,
has 1 and 0, and every nonzero byte has an inverse. -/
def Obligations.FfMulIsFieldMultiplication : Prop :=
  (∀ a : Byte, ffMul a 0x02 = if a.getLsbD 7 then (a <<< 1) ^^^ 0x1B else a <<< 1) ∧
  (∀ a b : Byte, ffMul a b = ffMul b a) ∧
  (∀ a : Byte, ffMul a 0x01 = a) ∧ (∀ a : Byte, ffMul a 0x00 = 0x00) ∧
  (∀ a b c : Byte, ffMul (ffMul a b) c = ffMul a (ffMul b c)) ∧
  (∀ a b c : Byte, ffMul a (b ^^^ c) = ffMul a b ^^^ ffMul a c) ∧
  (∀ a : Byte, a ≠ 0 → ∃ b, ffMul a b = 0x01)

/-- R152. -/
def Obligations.FfmulReturnsTheProduct : Prop :=
  ∀ (w : CmdWord) (s : State), fieldOpc w = 0x20 →
    decode w = .ok (.ffmul (fieldA w) (fieldB w)) ∧
    exec (.ffmul (fieldA w) (fieldB w)) s = .next { s with res := ffMul (fieldA w) (fieldB w) } ∧
    (fieldA w = 0 ∨ fieldB w = 0 → ffMul (fieldA w) (fieldB w) = 0) ∧
    (fieldA w = 1 → ffMul (fieldA w) (fieldB w) = fieldB w)

/-- R153, R154: element i of a rotated array is element (i - k) mod n of the array; rotating by 0 or n is the identity;
rotating left by k, that is right by n - k, undoes it. -/
def Obligations.RotrRotatesRight : Prop :=
  ∀ (a : List Byte) (k : Nat), k ≤ a.length →
    (rotr a k).length = a.length ∧
    (∀ i < a.length, (rotr a k)[i]? = a[(i + a.length - k) % a.length]?) ∧
    rotr a 0 = a ∧ rotr a a.length = a ∧ rotr (rotr a k) (a.length - k) = a

/-- R155; UnwrittenRead is UnwrittenReadFaults. -/
def Obligations.RotrRowRotatesOneRow : Prop :=
  ∀ (w : CmdWord) (s : State), fieldOpc w = 0x22 →
    decode w = .ok (.rotrRow (fieldA w) (fieldB w)) ∧
    ((fieldA w).toNat ≤ 3 → (fieldB w).toNat ≤ 4 → s.readable .state = true →
      ∃ t, exec (.rotrRow (fieldA w) (fieldB w)) s = .next t ∧
        t = { s with state := t.state, written := { s.written with state := true } } ∧
        ∀ r c : Fin 4, t.state.get r c =
          if r.val = (fieldA w).toNat then s.state.get r (c - Fin.ofNat 4 (fieldB w).toNat) else s.state.get r c) ∧
    (3 < (fieldA w).toNat ∨ 4 < (fieldB w).toNat →
      exec (.rotrRow (fieldA w) (fieldB w)) s = .next { s with status := s.status ||| 0x02 })

/-- R156, R157: INV_SBOX is the inverse permutation of SBOX, and SBOX[x] is the affine transform of the inverse of x. -/
def Obligations.SboxTablesAreInverse : Prop :=
  (∀ x : Byte, invSbox (sbox x) = x ∧ sbox (invSbox x) = x) ∧
  (∀ x b : Byte, (ffMul x b = 1 ∨ (x = 0 ∧ b = 0)) →
    sbox x = b ^^^ b.rotateLeft 1 ^^^ b.rotateLeft 2 ^^^ b.rotateLeft 3 ^^^ b.rotateLeft 4 ^^^ 0x63)

/-- R159 to R162: PARITY returns the bit that makes the count of ones of the nine bits even, MAJ3 the majority of A[2:0],
whatever A[7:3] holds. That they write RES is log entry 19. -/
def Obligations.ParityAndMajority : Prop :=
  (∀ b : Byte, ((List.range 8).countP (fun i => b.getLsbD i) + (if parityBit b then 1 else 0)) % 2 = 0) ∧
  (∀ s1 s2 s3 : Bool, maj3 s1 s2 s3 = decide (2 ≤ [s1, s2, s3].countP id)) ∧
  ∀ (w : CmdWord) (s : State),
    (fieldOpc w = 0x21 → decode w = .ok (.parity (fieldA w))) ∧
    exec (.parity (fieldA w)) s = .next { s with res := if parityBit (fieldA w) then 0x01 else 0x00 } ∧
    (fieldOpc w = 0x25 → decode w = .ok (.maj3 ((fieldA w).extractLsb' 0 3))) ∧
    exec (.maj3 ((fieldA w).extractLsb' 0 3)) s = .next { s with
      res := if maj3 ((fieldA w).getLsbD 0) ((fieldA w).getLsbD 1) ((fieldA w).getLsbD 2) then 0x01 else 0x00 }

/-! ### PRNG -/

/-- R181: step is a bijection, fixes 0, and the other 255 bytes are one cycle. -/
def Obligations.PrngStepIsOneCycle : Prop :=
  Function.Bijective prngStep ∧ prngStep 0 = 0 ∧ prngStep^[255] 1 = 1 ∧
  ∀ x : Byte, x ≠ 0 → ∃ n < 255, prngStep^[n] 1 = x

/-- R183: eight conversions, the first ending in bit 7; UNAVAILABLE raises EntropyUnavailable and leaves PRNG. The model's own
here: the queue of answers (log entry 8), and that answers given to a command that raises are not given back (log entry
9). -/
def Obligations.PrngSeedConcatenatesConversions : Prop :=
  ∀ (w : CmdWord) (s : State), fieldOpc w = 0x23 →
    decode w = .ok .prngSeed ∧
    (s.EntropyAnswers 8 → ∃ t, exec .prngSeed s = .next t ∧
      t = { s with prng := t.prng, env := s.env.afterConversions 8 } ∧
      ∀ k < 8, t.prng.getLsbD (7 - k) = (s.env.conversionAt k).bit) ∧
    (∀ n < 8, s.EntropyAnswers n → s.params.entropyCanFail = true → (s.env.conversionAt n).unavailable = true →
      exec .prngSeed s = .next { s with status := s.status ||| 0x04, env := s.env.afterConversions (n + 1) })

/-- R184, R185: the new PRNG is RES and PRNG. -/
def Obligations.PrngNextAdvances : Prop :=
  ∀ (w : CmdWord) (s : State), fieldOpc w = 0x24 →
    decode w = .ok .prngNext ∧
    exec .prngNext s = .next { s with prng := prngStep s.prng, res := prngStep s.prng } ∧
    (s.prng = 0 → ∃ t, exec .prngNext s = .next t ∧ t.prng = 0 ∧ t.res = 0)

/-! ### Masking -/

/-- R201: the seed x, the draws in their order, MSBOX and MCM_IN; under DPA one draw for all. The queue of answers is log
entry 8, what UNAVAILABLE leaves of it log entry 9. -/
def Obligations.MaskInitDrawsMasks : Prop :=
  ∀ (w : CmdWord) (s : State), fieldOpc w = 0x40 →
    decode w = .ok .maskInit ∧
    (s.EntropyAnswers 8 → ∃ (t : State) (x : Byte), exec .maskInit s = .next t ∧
      (∀ k < 8, x.getLsbD (7 - k) = (s.env.conversionAt k).bit) ∧
      t = { s with
        prng := t.prng, masks := t.masks, msbox := t.msbox, env := s.env.afterConversions 8
        written := { s.written with masks := true, msbox := true } } ∧
      t.masks.sbmIn = prngStep x ∧
      (s.dpa = true → t.masks.sbmOut = prngStep x ∧ (∀ r : Fin 4, t.masks.mcmOut[r] = prngStep x) ∧
        t.prng = prngStep x) ∧
      (s.dpa = false → t.masks.sbmOut = prngStep^[2] x ∧ (∀ r : Fin 4, t.masks.mcmOut[r] = prngStep^[3 + r.val] x) ∧
        t.prng = prngStep^[6] x) ∧
      t.masks.mcmIn = invMixColumn t.masks.mcmOut ∧
      ∀ i : Byte, maskedLookup t.msbox (i ^^^ t.masks.sbmOut) = invSbox i ^^^ t.masks.sbmIn) ∧
    (∀ n < 8, s.EntropyAnswers n → s.params.entropyCanFail = true → (s.env.conversionAt n).unavailable = true →
      exec .maskInit s = .next { s with status := s.status ||| 0x04, env := s.env.afterConversions (n + 1) })

/-- R204: under DPA every mask is m, MRK equals RK, and INV_REMASK_STATE changes no byte. -/
def Obligations.DpaMasksCancel : Prop :=
  ∀ s : State, s.dpa = true → s.EntropyAnswers 8 → s.readable .state = true →
    ∃ t u : State, execAll [.maskInit, .maskSubkeys] s = .next t ∧ t.masks.sbmOut = t.masks.sbmIn ∧
      (∀ r : Fin 4, t.masks.mcmOut[r] = t.masks.sbmIn ∧ t.masks.mcmIn[r] = t.masks.sbmIn) ∧
      t.mrk = t.rk ∧ exec .invRemaskState t = .next u ∧ u.state = t.state

/-- R205; the index is j mod 4. UnwrittenRead is UnwrittenReadFaults. -/
def Obligations.MaskSubkeysMasksEveryByte : Prop :=
  ∀ (w : CmdWord) (s : State), fieldOpc w = 0x41 →
    decode w = .ok .maskSubkeys ∧
    (s.readable .masks = true → ∃ t, exec .maskSubkeys s = .next t ∧
      t = { s with mrk := t.mrk, written := { s.written with mrk := true } } ∧
      ∀ (i : Fin 11) (j : Fin 16), t.mrk[i][j] =
        s.rk[i][j] ^^^ s.masks.mcmOut[j.val % 4]'(Nat.mod_lt _ (by decide)) ^^^ s.masks.sbmIn)

/-- R206, R207, R208; UnwrittenRead is UnwrittenReadFaults. -/
def Obligations.StateMaskingXorsRowMasks : Prop :=
  ∀ (w : CmdWord) (s : State),
    (fieldOpc w = 0x42 → decode w = .ok .invMaskState) ∧ (fieldOpc w = 0x43 → decode w = .ok .invRemaskState) ∧
    (fieldOpc w = 0x44 → decode w = .ok .invUnmaskState) ∧
    (s.readable .state = true → s.readable .masks = true →
      (∃ t, exec .invMaskState s = .next t ∧
        t = { s with state := t.state, written := { s.written with state := true } } ∧
        (∀ r c : Fin 4, t.state.get r c
          = s.state.get r c ^^^ s.masks.mcmOut[r] ^^^ s.masks.sbmIn ^^^ s.masks.sbmOut) ∧
        ∃ u, exec .invMaskState t = .next u ∧ u.state = s.state) ∧
      (∃ t, exec .invRemaskState s = .next t ∧
        t = { s with state := t.state, written := { s.written with state := true } } ∧
        ∀ r c : Fin 4, t.state.get r c = s.state.get r c ^^^ s.masks.mcmIn[r] ^^^ s.masks.sbmOut) ∧
      (∃ t, exec .invUnmaskState s = .next t ∧
        t = { s with state := t.state, written := { s.written with state := true } } ∧
        ∀ r c : Fin 4, t.state.get r c = s.state.get r c ^^^ s.masks.mcmOut[r]))

/-- R209, R210; every A is in range. UnwrittenRead is UnwrittenReadFaults. -/
def Obligations.RdMsboxReadsOneEntry : Prop :=
  ∀ (w : CmdWord) (s : State), fieldOpc w = 0x45 →
    decode w = .ok (.rdMsbox (fieldA w)) ∧
    (s.readable .msbox = true →
      exec (.rdMsbox (fieldA w)) s = .next { s with res := s.msbox[(fieldA w).toNat] })

/-! ### Hiding -/

/-- R231, R232: with DUMMY_OPS a schedule from the seed x in 78 draws, without it SCHED kept; the counters cleared in both.
The queue of answers is log entry 8, what UNAVAILABLE leaves of it log entry 9. -/
def Obligations.HidingInitSeedsAndClears : Prop :=
  ∀ (w : CmdWord) (s : State), fieldOpc w = 0x50 →
    decode w = .ok .hidingInit ∧
    (s.EntropyAnswers 8 → ∃ (t : State) (x : Byte), exec .hidingInit s = .next t ∧
      (∀ k < 8, x.getLsbD (7 - k) = (s.env.conversionAt k).bit) ∧
      t = { s with
        prng := t.prng, sched := t.sched, dcnt := 0, nopCount := 0, env := s.env.afterConversions 8
        written := { s.written with sched := s.written.sched || s.dummyOps } } ∧
      (s.dummyOps = true → t.sched = (buildSchedule x).1 ∧ t.prng = prngStep^[78] x) ∧
      (s.dummyOps = false → t.sched = s.sched ∧ t.prng = x)) ∧
    (∀ n < 8, s.EntropyAnswers n → s.params.entropyCanFail = true → (s.env.conversionAt n).unavailable = true →
      exec .hidingInit s = .next { s with status := s.status ||| 0x04, env := s.env.afterConversions (n + 1) })

/-- R238 (and R232, R233): from every PRNG value the schedule has 40 entries of 0..100 that sum to 100, and the access
order is a permutation of 0..15. -/
def Obligations.SchedulesAndOrdersAreSound : Prop :=
  ∀ x : Byte,
    scheduleSum (buildSchedule x).1 = 100 ∧ (buildSchedule x).1.toList.length = 40 ∧
    (∀ i : Fin 40, ((buildSchedule x).1[i]).toNat ≤ 100) ∧
    (shuffledOrder x).1.toList.Perm (List.finRange 16)

/-- R233: 15 draws from the PRNG as it is, whatever CFG holds; PERM is a permutation of 0..15, and 1 2 ... 15 0 from
PRNG = 0. -/
def Obligations.ShuffleDrawsAPermutation : Prop :=
  ∀ (w : CmdWord) (s : State), fieldOpc w = 0x51 →
    decode w = .ok .shuffleSboxAccess ∧
    ∃ t, exec .shuffleSboxAccess s = .next t ∧
      t = { s with prng := prngStep^[15] s.prng, perm := t.perm, written := { s.written with perm := true } } ∧
      t.perm = (shuffledOrder s.prng).1 ∧ t.perm.toList.Perm (List.finRange 16) ∧
      (s.prng = 0 → ∀ i : Fin 16, t.perm[i] = i + 1)

/-- R234; UnwrittenRead is UnwrittenReadFaults. -/
def Obligations.DummyOpConsumesTheSchedule : Prop :=
  ∀ (w : CmdWord) (s : State), fieldOpc w = 0x52 →
    decode w = .ok .dummyOp ∧
    (s.dummyOps = false → exec .dummyOp s = .next s) ∧
    (s.dummyOps = true → 40 ≤ s.dcnt → exec .dummyOp s = .next { s with status := s.status ||| 0x08 }) ∧
    (∀ h : s.dcnt < 40, s.dummyOps = true → s.readable .sched = true →
      exec .dummyOp s
        = .next { s with dcnt := s.dcnt + 1, nopCount := s.nopCount + BitVec.ofNat 16 (s.sched[s.dcnt].toNat) })

/-! ### AES core -/

/-- R260, R261, R262: the schedule's recurrence, the round coefficients, and KEY_EXPAND, which leaves MRK. -/
def Obligations.KeyExpandFollowsTheSchedule : Prop :=
  (∀ k : Block, (keyExpand k)[0] = k ∧
    ∀ i : Fin 10, ∃ p q : Block, p = (keyExpand k)[i.val] ∧ q = (keyExpand k)[i.val + 1]'(Nat.succ_lt_succ i.isLt) ∧
      q[0] = p[0] ^^^ (sbox p[13] ^^^ roundCoefficients[i]) ∧ q[1] = p[1] ^^^ sbox p[14] ∧
      q[2] = p[2] ^^^ sbox p[15] ∧ q[3] = p[3] ^^^ sbox p[12] ∧
      ∀ j : Fin 12, q[j.val + 4] = p[j.val + 4] ^^^ q[j.val]) ∧
  (roundCoefficients[0] = 0x01 ∧
    ∀ i : Fin 9, roundCoefficients[i.val + 1] = ffMul 0x02 roundCoefficients[i.val]) ∧
  ∀ (w : CmdWord) (s : State), fieldOpc w = 0x30 →
    decode w = .ok .keyExpand ∧ exec .keyExpand s = .next { s with rk := keyExpand s.key }

/-- R263, R264: column by column; a load and a store leave DATA unchanged. UnwrittenRead is UnwrittenReadFaults. -/
def Obligations.LoadAndStoreAreColumnMajor : Prop :=
  ∀ (w : CmdWord) (s : State),
    (fieldOpc w = 0x31 → decode w = .ok .loadState) ∧ (fieldOpc w = 0x32 → decode w = .ok .storeState) ∧
    (s.DataReadable → ∃ t u, exec .loadState s = .next t ∧
      t = { s with state := t.state, written := { s.written with state := true } } ∧
      (∀ r c : Fin 4, t.state.get r c = s.data[4 * c.val + r.val]) ∧
      exec .storeState t = .next u ∧ u.data = s.data) ∧
    (s.readable .state = true → ∃ t, exec .storeState s = .next t ∧
      t = { s with data := t.data, written := { s.written with data := Vector.replicate 16 true } } ∧
      ∀ r c : Fin 4, t.data[4 * c.val + r.val] = s.state.get r c)

/-- R265, R266: the prefix, then the XOR of MRK[A] or RK[A]; UnwrittenRead is UnwrittenReadFaults. -/
def Obligations.AddRoundKeyXorsTheRoundKey : Prop :=
  ∀ (w : CmdWord) (s : State), fieldOpc w = 0x33 →
    decode w = .ok (.addRoundKey (fieldA w)) ∧
    (∀ h : (fieldA w).toNat < 11, s.PrefixReady true → s.readable .state = true →
      (s.masking = true → s.readable .mrk = true) →
      ∃ t, exec (.addRoundKey (fieldA w)) s = .next t ∧
        t = { s with
          state := t.state, written := { s.written with state := true }
          dcnt := s.dcntAfterPrefix true, nopCount := s.nopCountAfterPrefix true } ∧
        ∀ r c : Fin 4, t.state.get r c = s.state.get r c
          ^^^ (if s.masking then s.mrk[(fieldA w).toNat] else s.rk[(fieldA w).toNat])[4 * c.val + r.val]) ∧
    (10 < (fieldA w).toNat → exec (.addRoundKey (fieldA w)) s = .next { s with status := s.status ||| 0x02 }) ∧
    ((fieldA w).toNat ≤ 10 → s.prefixActive true = true → 40 ≤ s.dcnt →
      exec (.addRoundKey (fieldA w)) s = .next { s with status := s.status ||| 0x08 })

/-- R267; UnwrittenRead is UnwrittenReadFaults. -/
def Obligations.InvShiftRowsRotatesRows : Prop :=
  ∀ (w : CmdWord) (s : State), fieldOpc w = 0x34 →
    decode w = .ok .invShiftRows ∧
    (s.PrefixReady true → s.readable .state = true → ∃ t, exec .invShiftRows s = .next t ∧
      t = { s with
        state := t.state, written := { s.written with state := true }
        dcnt := s.dcntAfterPrefix true, nopCount := s.nopCountAfterPrefix true } ∧
      ∀ r c : Fin 4, t.state.get r c = s.state.get r (c - r)) ∧
    (s.prefixActive true = true → 40 ≤ s.dcnt →
      exec .invShiftRows s = .next { s with status := s.status ||| 0x08 }) ∧
    ∀ m : StateMatrix, shiftRowsRight (shiftRowsRight (shiftRowsRight (shiftRowsRight m))) = m

/-- R268, R269: every byte substituted once, through MSBOX or INV_SBOX, in whatever order; where PERM is not a permutation
(no command leaves one so) the command completes all the same. UnwrittenRead is UnwrittenReadFaults. -/
def Obligations.InvByteSubSubstitutesEveryByte : Prop :=
  ∀ (w : CmdWord) (s : State), fieldOpc w = 0x35 →
    decode w = .ok .invByteSub ∧
    (s.PrefixReady false → s.readable .state = true → (s.shuffling = true → s.readable .perm = true) →
      (s.masking = true → s.readable .msbox = true) → ∃ t, exec .invByteSub s = .next t ∧
      t = { s with
        state := t.state, written := { s.written with state := true }
        dcnt := s.dcntAfterPrefix false, nopCount := s.nopCountAfterPrefix false } ∧
      ((s.shuffling = true → s.perm.toList.Perm (List.finRange 16)) → ∀ r c : Fin 4, t.state.get r c =
        if s.masking then s.msbox[(s.state.get r c).toNat] else invSbox (s.state.get r c))) ∧
    (s.prefixActive false = true → 40 ≤ s.dcnt →
      exec .invByteSub s = .next { s with status := s.status ||| 0x08 })

/-- R158, R270: each column mapped by the matrix IMCM from the old STATE; linear over XOR. UnwrittenRead is
UnwrittenReadFaults. -/
def Obligations.InvMixColsMultipliesColumns : Prop :=
  ∀ (w : CmdWord) (s : State), fieldOpc w = 0x36 →
    decode w = .ok .invMixCols ∧
    (s.PrefixReady true → s.readable .state = true → ∃ t, exec .invMixCols s = .next t ∧
      t = { s with
        state := t.state, written := { s.written with state := true }
        dcnt := s.dcntAfterPrefix true, nopCount := s.nopCountAfterPrefix true } ∧
      ∀ r c : Fin 4, t.state.get r c =
        ffMul (imcmTable.get r 0) (s.state.get 0 c) ^^^ ffMul (imcmTable.get r 1) (s.state.get 1 c)
          ^^^ ffMul (imcmTable.get r 2) (s.state.get 2 c) ^^^ ffMul (imcmTable.get r 3) (s.state.get 3 c)) ∧
    (s.prefixActive true = true → 40 ≤ s.dcnt →
      exec .invMixCols s = .next { s with status := s.status ||| 0x08 }) ∧
    (∀ m n : StateMatrix, ∀ r c : Fin 4,
      (unmixColumns (StateMatrix.ofFn fun r c => m.get r c ^^^ n.get r c)).get r c
        = (unmixColumns m).get r c ^^^ (unmixColumns n).get r c) ∧
    ∀ m : Byte, invMixColumn #v[m, m, m, m] = #v[m, m, m, m]

/-- R212, R236, R277(2): under every CFG and every answer of the oracle DECRYPT writes the plain inverse cipher's block
into DATA, and leaves CFG, STATUS, RES, KEY, the transceiver and the parameters as they are. -/
def Obligations.DecryptIsTheInverseCipherUnderEveryCfg : Prop :=
  ∀ s : State, s.DataReadable → s.EntropyAnswers s.conversionsNeeded →
    ∃ t, exec .decrypt s = .next t ∧ t.data = referenceDecrypt s.key s.data ∧ t.state = matrixOfBlock t.data ∧
      t.rk = keyExpand s.key ∧ t.cfg = s.cfg ∧ t.status = s.status ∧ t.res = s.res ∧ t.key = s.key ∧
      t.xcvr = s.xcvr ∧ t.params = s.params ∧ t.env = s.env.afterConversions s.conversionsNeeded ∧
      (s.masking = false → t.mrk = s.mrk ∧ t.masks = s.masks ∧ t.msbox = s.msbox) ∧
      (s.shuffling = false → t.perm = s.perm) ∧ (s.dummyOps = false → t.sched = s.sched) ∧
      (s.masking = false → s.shuffling = false → s.dummyOps = false → t.prng = s.prng) ∧
      (s.shuffling = false → s.dummyOps = false → t.dcnt = s.dcnt ∧ t.nopCount = s.nopCount)

/-- R277(1): DECRYPT under every CFG gives back the block the forward cipher encrypted. The forward cipher is FIPS-197 from
outside the spec, log entry 18. -/
def Obligations.DecryptInvertsEncryption : Prop :=
  ∀ (s : State) (p : Block), s.data = referenceEncrypt s.key p → s.DataReadable →
    s.EntropyAnswers s.conversionsNeeded → ∃ t, exec .decrypt s = .next t ∧ t.data = p

/-- R236, R237: with DUMMY_OPS a DECRYPT consumes all 40 entries and 100 no-ops, whatever the seed; under DPA ten entries. -/
def Obligations.DecryptConsumesTheSchedule : Prop :=
  ∀ s : State, s.dummyOps = true → s.DataReadable → s.EntropyAnswers s.conversionsNeeded →
    ∃ t, exec .decrypt s = .next t ∧
      (s.dpa = false → t.dcnt = 40 ∧ t.nopCount = 100) ∧
      (s.dpa = true → t.dcnt = 10 ∧ t.nopCount.toNat = ((t.sched.toList.take 10).map BitVec.toNat).sum)

/-- R276: the unrolled commands have the effect of DECRYPT when no step raises. -/
def Obligations.UnrolledDecryptionEqualsDecrypt : Prop :=
  ∀ s : State, s.DataReadable → s.EntropyAnswers s.conversionsNeeded →
    execAll s.decryptUnrolled s = exec .decrypt s

/-- R11, R275, R383: when a conversion of DECRYPT's seedings is unavailable, every element keeps its value and ERR_ENTROPY
is set. -/
def Obligations.DecryptIsAllOrNothing : Prop :=
  ∀ (s : State) (n : Nat), s.DataReadable → n < s.conversionsNeeded → s.EntropyAnswers n →
    s.params.entropyCanFail = true → (s.env.conversionAt n).unavailable = true →
    exec .decrypt s = .next { s with status := s.status ||| 0x04, env := s.env.afterConversions (n + 1) }

/-! ### Transceiver -/

/-- R300, its issuing step. OCR for ETU_TICKS above 65535 is log entry 21. -/
def Obligations.TxByteStartsTheFrame : Prop :=
  ∀ (w : CmdWord) (s : State), fieldOpc w = 0x60 →
    decode w = .ok (.txByte (fieldA w)) ∧
    exec (.txByte (fieldA w)) s = .next { s with
      xcvr := { s.xcvr with
        txb := fieldA w, dir := .output, pcie := false, ocr := BitVec.ofNat 16 s.params.etuTicks, tcnt := 0,
        trun := true, txIdx := 0, outputBit := false, bitSent := false, fg := .txBit } }

/-- R301: the frame bits and the two transmit steps of the foreground. A move that is not enabled leaves the state as it is
(log entry 15); OCR for parameters outside their usual range is log entry 21. -/
def Obligations.TransmitStepsFollowTheFrame : Prop :=
  (∀ b : Byte, frameBit b 0 = false ∧ (∀ k < 8, frameBit b (k + 1) = b.getLsbD k) ∧ frameBit b 9 = parityBit b ∧
    frameBit b 10 = true) ∧
  ∀ s : State,
    (s.xcvr.fg = .txBit → s.xcvr.bitSent = true → s.xcvr.txIdx < 10 → move .foreground s = .next { s with
      xcvr := { s.xcvr with
        txIdx := s.xcvr.txIdx + 1, outputBit := frameBit s.xcvr.txb (s.xcvr.txIdx + 1), bitSent := false } }) ∧
    (s.xcvr.fg = .txBit → s.xcvr.bitSent = true → s.xcvr.txIdx = 10 → move .foreground s = .next { s with
      xcvr := { s.xcvr with
        dir := .input, ocr := BitVec.ofNat 16 (s.params.etuTicks - s.params.fudge), checkErrors := true,
        fg := .txCheck } }) ∧
    (s.xcvr.fg = .txBit → s.xcvr.bitSent = false → move .foreground s = .next s) ∧
    (s.xcvr.fg = .txCheck → s.xcvr.checkErrors = false → s.xcvr.errorBit = true →
      move .foreground s = .next { s with xcvr := { s.xcvr with trun := false, fg := .idle } }) ∧
    (s.xcvr.fg = .txCheck → s.xcvr.checkErrors = false → s.xcvr.errorBit = false →
      move .foreground s = exec (.txByte s.xcvr.txb) s) ∧
    (s.xcvr.fg = .txCheck → s.xcvr.checkErrors = true → move .foreground s = .next s)

/-- R302, R303: RX_BYTE's issuing step and its completion. While byteReceived = 0 the foreground's move leaves the state as
it is (log entry 15). -/
def Obligations.RxByteArmsAndCompletes : Prop :=
  ∀ (w : CmdWord) (s : State),
    (fieldOpc w = 0x61 → decode w = .ok .rxByte) ∧
    exec .rxByte s = .next { s with
      xcvr := { s.xcvr with
        dir := .input, byteReceived := false, inputBitCounter := 0, inputByte := 0x00, parityError := false,
        pcie := true, fg := .rxWait } } ∧
    (s.xcvr.fg = .rxWait → s.xcvr.byteReceived = true → move .foreground s = .next { s with
      res := s.xcvr.inputByte, xcvr := { s.xcvr with byteReceived := false, fg := .idle } }) ∧
    (s.xcvr.fg = .rxWait → s.xcvr.byteReceived = false → move .foreground s = .next s)

/-- R306, R307: the detector follows every transition; a falling edge with PCIE = 1 while receiving starts the frame; with
PCIE = 0 it is forgotten, or latched under PCINT_LATCH and taken by PINPEND. A move that is not enabled leaves the state as
it is (log entry 15), PC_PEND is kept where PCINT_LATCH is false (log entry 20), and OCR for parameters outside their usual
range is log entry 21. -/
def Obligations.PinChangeDetectorActs : Prop :=
  ∀ s : State,
    (s.xcvr.line = s.xcvr.linePrev → move .pinChange s = .next s) ∧
    (s.xcvr.line ≠ s.xcvr.linePrev → s.xcvr.pcie = true → s.xcvr.line = false → s.xcvr.dir = .input →
      move .pinChange s = .next { s with
        xcvr := { s.xcvr with
          linePrev := false, pcie := false, tcnt := 0
          ocr := BitVec.ofNat 16 (3 * s.params.etuTicks / 2 - s.params.fudge), trun := true
          inputBitCounter := 0, inputByte := 0x00, parityError := false } }) ∧
    (s.xcvr.line ≠ s.xcvr.linePrev → s.xcvr.pcie = true → (s.xcvr.line = true ∨ s.xcvr.dir = .output) →
      move .pinChange s = .next { s with xcvr := { s.xcvr with linePrev := s.xcvr.line } }) ∧
    (s.xcvr.line ≠ s.xcvr.linePrev → s.xcvr.pcie = false → move .pinChange s = .next { s with
      xcvr := { s.xcvr with linePrev := s.xcvr.line, pcPend := s.xcvr.pcPend || s.params.pcintLatch } }) ∧
    (s.params.pcintLatch = true → s.xcvr.pcie = true → s.xcvr.pcPend = true → s.xcvr.line = false →
      s.xcvr.dir = .input → move .pendingEdge s = .next { s with
        xcvr := { s.xcvr with
          pcPend := false, pcie := false, tcnt := 0
          ocr := BitVec.ofNat 16 (3 * s.params.etuTicks / 2 - s.params.fudge), trun := true
          inputBitCounter := 0, inputByte := 0x00, parityError := false } }) ∧
    (s.params.pcintLatch = true → s.xcvr.pcie = true → s.xcvr.pcPend = true →
      (s.xcvr.line = true ∨ s.xcvr.dir = .output) →
      move .pendingEdge s = .next { s with xcvr := { s.xcvr with pcPend := false } }) ∧
    (s.params.pcintLatch = false ∨ s.xcvr.pcie = false ∨ s.xcvr.pcPend = false → move .pendingEdge s = .next s)

/-- R308, R309: the counter counts until the tick at which it reaches OCR, which clears it and runs the handler; that is
OCR ticks after a clear, 65536 for OCR = 0, and 65536 - TCNT + OCR where OCR ≤ TCNT. -/
def Obligations.TimerMatchesAtOcr : Prop :=
  ∀ (s : State) (d : Nat), d = (s.xcvr.ocr - s.xcvr.tcnt - 1).toNat →
    (s.xcvr.trun = false → timerStep s = s) ∧
    (s.xcvr.trun = true →
      (∀ k ≤ d, timerStep^[k] s = { s with xcvr := { s.xcvr with tcnt := s.xcvr.tcnt + BitVec.ofNat 16 k } }) ∧
      timerStep^[d + 1] s = timerHandler { s with xcvr := { s.xcvr with tcnt := 0 } }) ∧
    (s.xcvr.tcnt = 0 → 1 ≤ s.xcvr.ocr.toNat → d + 1 = s.xcvr.ocr.toNat) ∧
    (s.xcvr.tcnt = 0 → s.xcvr.ocr = 0 → d + 1 = 65536) ∧
    (s.xcvr.ocr.toNat ≤ s.xcvr.tcnt.toNat → d + 1 = 65536 - s.xcvr.tcnt.toNat + s.xcvr.ocr.toNat)

/-- R310 to R314: the handler's first branch whose condition holds. The sample of the guard interval (R305) without
GLITCH_FREE is a free draw (log entry 10). -/
def Obligations.TimerHandlerDispatches : Prop :=
  ∀ s : State,
    (s.xcvr.checkErrors = true → s.params.glitchFree = true → timerHandler s = { s with
      xcvr := { s.xcvr with errorBit := s.xcvr.line, checkErrors := false } }) ∧
    (s.xcvr.checkErrors = true → s.params.glitchFree = false → timerHandler s = { s with
      xcvr := { s.xcvr with errorBit := s.env.nextSample, checkErrors := false }, env := s.env.afterSample }) ∧
    (s.xcvr.checkErrors = false → s.xcvr.nackDriven = true → timerHandler s = { s with
      xcvr := { s.xcvr with
        lineDrv := true, dir := .input, nackDriven := false, parityError := false, trun := false,
        inputBitCounter := 0, inputByte := 0x00, pcie := true } }) ∧
    (s.xcvr.checkErrors = false → s.xcvr.nackDriven = false → s.xcvr.dir = .output → s.xcvr.parityError = true →
      timerHandler s = { s with xcvr := { s.xcvr with lineDrv := false, nackDriven := true } }) ∧
    (s.xcvr.checkErrors = false → s.xcvr.nackDriven = false → s.xcvr.dir = .output → s.xcvr.parityError = false →
      timerHandler s = { s with xcvr := { s.xcvr with lineDrv := s.xcvr.outputBit, bitSent := true } }) ∧
    (s.xcvr.checkErrors = false → s.xcvr.nackDriven = false → s.xcvr.dir = .input → timerHandler s = rxSample s)

/-- R305, R315, R316: RxSample with v the majority of three samples, which under GLITCH_FREE is the line's level and else of
three free draws (log entry 10). OCR for ETU_TICKS above 65535 is log entry 21. -/
def Obligations.RxSampleTakesOneBit : Prop :=
  ∀ (s u : State) (v : Bool),
    (s.params.glitchFree = true ∧ v = s.xcvr.line ∧ u = s ∨
      s.params.glitchFree = false ∧
        v = maj3 s.env.nextSample s.env.afterSample.nextSample s.env.afterSample.afterSample.nextSample ∧
        u = { s with env := s.env.afterSample.afterSample.afterSample }) →
    (s.xcvr.inputBitCounter = 0 → rxSample s = { u with
      xcvr := { s.xcvr with
        ocr := BitVec.ofNat 16 s.params.etuTicks
        inputByte := s.xcvr.inputByte ||| (if v then 1 else 0), inputBitCounter := 1 } }) ∧
    (1 ≤ s.xcvr.inputBitCounter → s.xcvr.inputBitCounter ≤ 7 → rxSample s = { u with
      xcvr := { s.xcvr with
        inputByte := s.xcvr.inputByte ||| (if v then (1 : Byte) <<< s.xcvr.inputBitCounter else 0)
        inputBitCounter := s.xcvr.inputBitCounter + 1 } }) ∧
    (s.xcvr.inputBitCounter = 8 → v = parityBit s.xcvr.inputByte → rxSample s = { u with
      xcvr := { s.xcvr with trun := false, byteReceived := true, inputBitCounter := 9 } }) ∧
    (s.xcvr.inputBitCounter = 8 → v ≠ parityBit s.xcvr.inputByte → rxSample s = { u with
      xcvr := { s.xcvr with parityError := true, dir := .output, lineDrv := true, inputBitCounter := 9 } }) ∧
    (s.xcvr.inputBitCounter = 9 → rxSample s = u)

/-- R75, R315, R316: the eight data bits of b, LSB first, then a parity bit v: with the right parity b is received, with
the wrong one the card turns the line round for its NACK. -/
def Obligations.ReceivedFrameYieldsTheByte : Prop :=
  ∀ (b : Byte) (v : Bool) (x y : Xcvr), x.inputBitCounter = 0 → x.inputByte = 0 →
    y = rxBit v ((List.range 8).foldl (fun z k => rxBit (b.getLsbD k) z) x) →
    y.inputByte = b ∧ y.inputBitCounter = 9 ∧
    (v = parityBit b → y.byteReceived = true ∧ y.trun = false ∧ y.dir = x.dir ∧ y.parityError = x.parityError) ∧
    (v ≠ parityBit b → y.parityError = true ∧ y.dir = .output ∧ y.lineDrv = true ∧ y.byteReceived = x.byteReceived)

/-- R300, R301, R318 under PROMPT and GLITCH_FREE with the parameters' default ticks: a TX_BYTE whose terminal leaves the
line released ends in FG = IDLE with ACK, in boundedly many steps. -/
def Obligations.AcknowledgedTransmitCompletes : Prop :=
  ∀ (s : State) (a : Byte), s.PromptTurn → s.params.glitchFree = true → s.params.etuTicks = 372 →
    s.params.fudge = 50 → s.env.termScript = [] → s.xcvr.term = true → s.xcvr.fg = .idle → s.xcvr.Prompt →
    ∃ (t u : State) (n : Nat), exec (.txByte a) s = .next t ∧ n ≤ 4500 ∧ core.run n t = .next u ∧
      u.xcvr.fg = .idle ∧ u.xcvr.errorBit = true ∧ u.xcvr.trun = false ∧ u.xcvr.pcie = false ∧
      u.xcvr.dir = .input ∧ u.xcvr.lineDrv = true ∧ u.xcvr.txIdx = 10 ∧ u.xcvr.txb = a ∧ u.status = s.status ∧
      u.res = s.res ∧ u.data = s.data

/-! ### Errors, reads of unwritten elements, and the whole machine -/

/-- R380, R389: a command other than CLRSTAT leaves STATUS as it was, or it reports one error: that error's STATUS bit is
set and no element changes but it. -/
def Obligations.ErrorsArePrecise : Prop :=
  ∀ (i : Instr) (s t : State), exec i s = .next t → i ≠ .clrstat →
    t.status = s.status ∨ ∃ e : CmdError, t = { s with status := s.status ||| e.statusBit, env := t.env }

/-- R36, R385 with strictReads on (log entry 2): a command that reads an element no command has written stops with
UnwrittenRead, naming it; of several it names the one its command comes to first: SCHED in an active prefix, then PERM or
MRK, then STATE, then the masks or MSBOX (log entry 2). -/
def Obligations.UnwrittenReadFaults : Prop :=
  ∀ s : State, s.params.strictReads = true →
    (∀ i : Fin 16, s.written.data[i] = false →
      exec (.rdata (indexByte i)) s = .fault (.unwrittenRead (.data i)) ∧
      ∃ j : Fin 16, s.written.data[j] = false ∧ exec .loadState s = .fault (.unwrittenRead (.data j)) ∧
        exec .decrypt s = .fault (.unwrittenRead (.data j))) ∧
    (s.written.state = false →
      (∀ (r : Fin 4) (k : Fin 5), exec (.rotrRow (indexByte r) (indexByte k)) s = .fault (.unwrittenRead .state)) ∧
      exec .storeState s = .fault (.unwrittenRead .state) ∧ exec .invMaskState s = .fault (.unwrittenRead .state) ∧
      exec .invRemaskState s = .fault (.unwrittenRead .state) ∧
      exec .invUnmaskState s = .fault (.unwrittenRead .state) ∧
      (s.PrefixReady true → exec .invShiftRows s = .fault (.unwrittenRead .state) ∧
        exec .invMixCols s = .fault (.unwrittenRead .state)) ∧
      (s.PrefixReady true → (s.masking = true → s.written.mrk = true) →
        ∀ i : Fin 11, exec (.addRoundKey (indexByte i)) s = .fault (.unwrittenRead .state)) ∧
      (s.PrefixReady false → (s.shuffling = true → s.written.perm = true) →
        exec .invByteSub s = .fault (.unwrittenRead .state))) ∧
    (s.written.masks = false → exec .maskSubkeys s = .fault (.unwrittenRead .masks) ∧
      (s.written.state = true → exec .invMaskState s = .fault (.unwrittenRead .masks) ∧
        exec .invRemaskState s = .fault (.unwrittenRead .masks) ∧
        exec .invUnmaskState s = .fault (.unwrittenRead .masks))) ∧
    (s.written.msbox = false → (∀ a, exec (.rdMsbox a) s = .fault (.unwrittenRead .msbox)) ∧
      (s.masking = true → s.written.state = true → (s.shuffling = true → s.written.perm = true) →
        s.PrefixReady false → exec .invByteSub s = .fault (.unwrittenRead .msbox))) ∧
    (s.written.mrk = false → s.masking = true → s.PrefixReady true →
      ∀ i : Fin 11, exec (.addRoundKey (indexByte i)) s = .fault (.unwrittenRead .mrk)) ∧
    (s.written.perm = false → s.shuffling = true → s.PrefixReady false →
      exec .invByteSub s = .fault (.unwrittenRead .perm)) ∧
    (s.written.sched = false → s.dcnt < 40 →
      (s.dummyOps = true → exec .dummyOp s = .fault (.unwrittenRead .sched)) ∧
      (s.prefixActive true = true →
        (∀ i : Fin 11, exec (.addRoundKey (indexByte i)) s = .fault (.unwrittenRead .sched)) ∧
        exec .invShiftRows s = .fault (.unwrittenRead .sched) ∧
        exec .invMixCols s = .fault (.unwrittenRead .sched)) ∧
      (s.prefixActive false = true → exec .invByteSub s = .fault (.unwrittenRead .sched)))

/-- R22, R23, R25, R28, R30, R31, R33, R34 and R393's "no other command writes them": who may write what. -/
def Obligations.OnlyNamedCommandsWrite : Prop :=
  ∀ (i : Instr) (s t : State), exec i s = .next t →
    t.params = s.params ∧
    ((∀ b, i ≠ .wcfg b) → t.cfg = s.cfg) ∧
    ((∀ a b, i ≠ .wkey a b) → t.key = s.key) ∧
    (i ≠ .clrstat → ∀ k, s.status.getLsbD k = true → t.status.getLsbD k = true) ∧
    (i ≠ .keyExpand → i ≠ .decrypt → t.rk = s.rk) ∧
    (i ≠ .maskSubkeys → i ≠ .decrypt → t.mrk = s.mrk) ∧
    (i ≠ .maskInit → i ≠ .decrypt → t.masks = s.masks ∧ t.msbox = s.msbox) ∧
    (i ≠ .shuffleSboxAccess → i ≠ .decrypt → t.perm = s.perm) ∧
    (i ≠ .hidingInit → i ≠ .decrypt → t.sched = s.sched) ∧
    ((∀ a, i ≠ .txByte a) → i ≠ .rxByte → t.xcvr = s.xcvr)

/-- R25, R395: no command's response depends on KEY, RK or MRK. -/
def Obligations.NoCommandReturnsKeyMaterial : Prop :=
  ∀ (i : Instr) (s t : State) (k : Block) (rk mrk : Vector Block Config.nRoundKeys), exec i s = .next t →
    ∃ u, exec i { s with key := k, rk := rk, mrk := mrk } = .next u ∧ u.res = t.res ∧ u.status = t.status

/-- R420, R421: the reset values the spec states, for every parameter, PRNG draw and terminal's choice. The counter of
conversions, 1 for R421's throwaway conversion, is the model's own (log entry 8). -/
def Obligations.ResetLeavesTheStatedValues : Prop :=
  ∀ (p : Params) (x : Byte) (term : Bool) (s : State), s = State.resetWith p x term →
    s.cfg = p.buildFlags.setWidth 8 ∧ s.status = 0x00 ∧ s.res = 0x00 ∧ s.key = p.masterKey ∧
    s.rk = keyExpand p.masterKey ∧ s.dcnt = 0 ∧ s.nopCount = 0 ∧ s.prng = x ∧
    s.xcvr.dir = .input ∧ s.xcvr.lineDrv = true ∧ s.xcvr.bitSent = false ∧ s.xcvr.outputBit = true ∧
    s.xcvr.byteReceived = false ∧ s.xcvr.inputBitCounter = 0 ∧ s.xcvr.inputByte = 0x00 ∧
    s.xcvr.checkErrors = false ∧ s.xcvr.errorBit = true ∧ s.xcvr.parityError = false ∧ s.xcvr.nackDriven = false ∧
    s.xcvr.pcie = false ∧ s.xcvr.pcPend = false ∧ s.xcvr.trun = false ∧ s.xcvr.tcnt = 0 ∧ s.xcvr.ocr = 0 ∧
    s.xcvr.fg = .idle ∧ s.xcvr.txb = 0x00 ∧ s.xcvr.txIdx = 0 ∧ s.xcvr.term = term ∧
    s.xcvr.linePrev = s.xcvr.line ∧ (∀ e, s.holds e = false) ∧ s.env.conversions = 1

/-- The invariants of the next three statements hold at reset. -/
def Obligations.ResetMeetsTheInvariants : Prop :=
  ∀ (p : Params) (x : Byte) (term : Bool) (s : State), s = State.resetWith p x term →
    s.InRange ∧ s.MasksConsistent ∧ s.HidingConsistent ∧ s.xcvr.Prompt

/-- R22, R23, R35, R42, R45, R163: every step, in whatever order the agents move, keeps CFG and STATUS bits 7:4 at 0 and
the counters in their ranges; no step changes a parameter. -/
def Obligations.EveryStepKeepsTheRanges : Prop :=
  ∀ s t : State, s.InRange → step s = .next t → t.InRange ∧ t.params = s.params

/-- R202, R203, R238, R269: every step keeps the masked S-Box and the MixCol masks consistent with the mask registers, and
PERM a permutation and SCHED's total at 100. -/
def Obligations.EveryStepKeepsCountermeasuresConsistent : Prop :=
  (∀ s t : State, s.MasksConsistent → step s = .next t → t.MasksConsistent) ∧
  (∀ s t : State, s.HidingConsistent → step s = .next t → t.HidingConsistent)

/-- R393 under PROMPT: every prompt step keeps the transceiver's invariant, whose IDLE case says TRUN = 0 and PCIE = 0. -/
def Obligations.PromptStepsKeepIdleQuiet : Prop :=
  ∀ s t : State, s.PromptTurn → s.xcvr.Prompt → step s = .next t →
    t.xcvr.Prompt ∧ t.PromptTurn ∧ (t.xcvr.fg = .idle → t.xcvr.trun = false ∧ t.xcvr.pcie = false)

/-- Log entry 2, the model's own: with strictReads off, as it is at State.reset, a read of an element no command has written
returns the byte it holds; so every command from every state, and every step, answers a next state. -/
def Obligations.NothingStopsWithStrictReadsOff : Prop :=
  State.reset.params.strictReads = false ∧
  ∀ s : State, s.params.strictReads = false →
    (∀ i : Instr, ∃ t, exec i s = .next t ∧ t.params = s.params) ∧ ∃ t, step s = .next t ∧ t.params = s.params
end

