-- ==== Sys2Proof/Laws/State.lean ====
section
/-! SUPPORT. The updates of State (Machine/Ops.lean), field by field: each update writes its own field and leaves every
other one, so that no later proof unfolds a record update. -/

namespace Sys2Proof.Machine

section

variable (s : State)

/-! ### setCfg -/

@[simp] theorem State.setCfg_cfg (v : Byte) : (s.setCfg v).cfg = v := rfl
@[simp] theorem State.setCfg_status (v : Byte) : (s.setCfg v).status = s.status := rfl
@[simp] theorem State.setCfg_res (v : Byte) : (s.setCfg v).res = s.res := rfl
@[simp] theorem State.setCfg_key (v : Byte) : (s.setCfg v).key = s.key := rfl
@[simp] theorem State.setCfg_data (v : Byte) : (s.setCfg v).data = s.data := rfl
@[simp] theorem State.setCfg_state (v : Byte) : (s.setCfg v).state = s.state := rfl
@[simp] theorem State.setCfg_rk (v : Byte) : (s.setCfg v).rk = s.rk := rfl
@[simp] theorem State.setCfg_mrk (v : Byte) : (s.setCfg v).mrk = s.mrk := rfl
@[simp] theorem State.setCfg_masks (v : Byte) : (s.setCfg v).masks = s.masks := rfl
@[simp] theorem State.setCfg_msbox (v : Byte) : (s.setCfg v).msbox = s.msbox := rfl
@[simp] theorem State.setCfg_prng (v : Byte) : (s.setCfg v).prng = s.prng := rfl
@[simp] theorem State.setCfg_perm (v : Byte) : (s.setCfg v).perm = s.perm := rfl
@[simp] theorem State.setCfg_sched (v : Byte) : (s.setCfg v).sched = s.sched := rfl
@[simp] theorem State.setCfg_dcnt (v : Byte) : (s.setCfg v).dcnt = s.dcnt := rfl
@[simp] theorem State.setCfg_nopCount (v : Byte) : (s.setCfg v).nopCount = s.nopCount := rfl
@[simp] theorem State.setCfg_xcvr (v : Byte) : (s.setCfg v).xcvr = s.xcvr := rfl
@[simp] theorem State.setCfg_written (v : Byte) : (s.setCfg v).written = s.written := rfl
@[simp] theorem State.setCfg_params (v : Byte) : (s.setCfg v).params = s.params := rfl
@[simp] theorem State.setCfg_env (v : Byte) : (s.setCfg v).env = s.env := rfl

/-! ### setStatus -/

@[simp] theorem State.setStatus_cfg (v : Byte) : (s.setStatus v).cfg = s.cfg := rfl
@[simp] theorem State.setStatus_status (v : Byte) : (s.setStatus v).status = v := rfl
@[simp] theorem State.setStatus_res (v : Byte) : (s.setStatus v).res = s.res := rfl
@[simp] theorem State.setStatus_key (v : Byte) : (s.setStatus v).key = s.key := rfl
@[simp] theorem State.setStatus_data (v : Byte) : (s.setStatus v).data = s.data := rfl
@[simp] theorem State.setStatus_state (v : Byte) : (s.setStatus v).state = s.state := rfl
@[simp] theorem State.setStatus_rk (v : Byte) : (s.setStatus v).rk = s.rk := rfl
@[simp] theorem State.setStatus_mrk (v : Byte) : (s.setStatus v).mrk = s.mrk := rfl
@[simp] theorem State.setStatus_masks (v : Byte) : (s.setStatus v).masks = s.masks := rfl
@[simp] theorem State.setStatus_msbox (v : Byte) : (s.setStatus v).msbox = s.msbox := rfl
@[simp] theorem State.setStatus_prng (v : Byte) : (s.setStatus v).prng = s.prng := rfl
@[simp] theorem State.setStatus_perm (v : Byte) : (s.setStatus v).perm = s.perm := rfl
@[simp] theorem State.setStatus_sched (v : Byte) : (s.setStatus v).sched = s.sched := rfl
@[simp] theorem State.setStatus_dcnt (v : Byte) : (s.setStatus v).dcnt = s.dcnt := rfl
@[simp] theorem State.setStatus_nopCount (v : Byte) : (s.setStatus v).nopCount = s.nopCount := rfl
@[simp] theorem State.setStatus_xcvr (v : Byte) : (s.setStatus v).xcvr = s.xcvr := rfl
@[simp] theorem State.setStatus_written (v : Byte) : (s.setStatus v).written = s.written := rfl
@[simp] theorem State.setStatus_params (v : Byte) : (s.setStatus v).params = s.params := rfl
@[simp] theorem State.setStatus_env (v : Byte) : (s.setStatus v).env = s.env := rfl

/-! ### setRes -/

@[simp] theorem State.setRes_cfg (v : Byte) : (s.setRes v).cfg = s.cfg := rfl
@[simp] theorem State.setRes_status (v : Byte) : (s.setRes v).status = s.status := rfl
@[simp] theorem State.setRes_res (v : Byte) : (s.setRes v).res = v := rfl
@[simp] theorem State.setRes_key (v : Byte) : (s.setRes v).key = s.key := rfl
@[simp] theorem State.setRes_data (v : Byte) : (s.setRes v).data = s.data := rfl
@[simp] theorem State.setRes_state (v : Byte) : (s.setRes v).state = s.state := rfl
@[simp] theorem State.setRes_rk (v : Byte) : (s.setRes v).rk = s.rk := rfl
@[simp] theorem State.setRes_mrk (v : Byte) : (s.setRes v).mrk = s.mrk := rfl
@[simp] theorem State.setRes_masks (v : Byte) : (s.setRes v).masks = s.masks := rfl
@[simp] theorem State.setRes_msbox (v : Byte) : (s.setRes v).msbox = s.msbox := rfl
@[simp] theorem State.setRes_prng (v : Byte) : (s.setRes v).prng = s.prng := rfl
@[simp] theorem State.setRes_perm (v : Byte) : (s.setRes v).perm = s.perm := rfl
@[simp] theorem State.setRes_sched (v : Byte) : (s.setRes v).sched = s.sched := rfl
@[simp] theorem State.setRes_dcnt (v : Byte) : (s.setRes v).dcnt = s.dcnt := rfl
@[simp] theorem State.setRes_nopCount (v : Byte) : (s.setRes v).nopCount = s.nopCount := rfl
@[simp] theorem State.setRes_xcvr (v : Byte) : (s.setRes v).xcvr = s.xcvr := rfl
@[simp] theorem State.setRes_written (v : Byte) : (s.setRes v).written = s.written := rfl
@[simp] theorem State.setRes_params (v : Byte) : (s.setRes v).params = s.params := rfl
@[simp] theorem State.setRes_env (v : Byte) : (s.setRes v).env = s.env := rfl

/-! ### setKeyByte -/

@[simp] theorem State.setKeyByte_cfg (i : Fin 16) (v : Byte) : (s.setKeyByte i v).cfg = s.cfg := rfl
@[simp] theorem State.setKeyByte_status (i : Fin 16) (v : Byte) : (s.setKeyByte i v).status = s.status := rfl
@[simp] theorem State.setKeyByte_res (i : Fin 16) (v : Byte) : (s.setKeyByte i v).res = s.res := rfl
@[simp] theorem State.setKeyByte_key (i : Fin 16) (v : Byte) : (s.setKeyByte i v).key = s.key.set i v := rfl
@[simp] theorem State.setKeyByte_data (i : Fin 16) (v : Byte) : (s.setKeyByte i v).data = s.data := rfl
@[simp] theorem State.setKeyByte_state (i : Fin 16) (v : Byte) : (s.setKeyByte i v).state = s.state := rfl
@[simp] theorem State.setKeyByte_rk (i : Fin 16) (v : Byte) : (s.setKeyByte i v).rk = s.rk := rfl
@[simp] theorem State.setKeyByte_mrk (i : Fin 16) (v : Byte) : (s.setKeyByte i v).mrk = s.mrk := rfl
@[simp] theorem State.setKeyByte_masks (i : Fin 16) (v : Byte) : (s.setKeyByte i v).masks = s.masks := rfl
@[simp] theorem State.setKeyByte_msbox (i : Fin 16) (v : Byte) : (s.setKeyByte i v).msbox = s.msbox := rfl
@[simp] theorem State.setKeyByte_prng (i : Fin 16) (v : Byte) : (s.setKeyByte i v).prng = s.prng := rfl
@[simp] theorem State.setKeyByte_perm (i : Fin 16) (v : Byte) : (s.setKeyByte i v).perm = s.perm := rfl
@[simp] theorem State.setKeyByte_sched (i : Fin 16) (v : Byte) : (s.setKeyByte i v).sched = s.sched := rfl
@[simp] theorem State.setKeyByte_dcnt (i : Fin 16) (v : Byte) : (s.setKeyByte i v).dcnt = s.dcnt := rfl
@[simp] theorem State.setKeyByte_nopCount (i : Fin 16) (v : Byte) : (s.setKeyByte i v).nopCount = s.nopCount := rfl
@[simp] theorem State.setKeyByte_xcvr (i : Fin 16) (v : Byte) : (s.setKeyByte i v).xcvr = s.xcvr := rfl
@[simp] theorem State.setKeyByte_written (i : Fin 16) (v : Byte) : (s.setKeyByte i v).written = s.written := rfl
@[simp] theorem State.setKeyByte_params (i : Fin 16) (v : Byte) : (s.setKeyByte i v).params = s.params := rfl
@[simp] theorem State.setKeyByte_env (i : Fin 16) (v : Byte) : (s.setKeyByte i v).env = s.env := rfl

/-! ### setDataByte -/

@[simp] theorem State.setDataByte_cfg (i : Fin 16) (v : Byte) : (s.setDataByte i v).cfg = s.cfg := rfl
@[simp] theorem State.setDataByte_status (i : Fin 16) (v : Byte) : (s.setDataByte i v).status = s.status := rfl
@[simp] theorem State.setDataByte_res (i : Fin 16) (v : Byte) : (s.setDataByte i v).res = s.res := rfl
@[simp] theorem State.setDataByte_key (i : Fin 16) (v : Byte) : (s.setDataByte i v).key = s.key := rfl
@[simp] theorem State.setDataByte_data (i : Fin 16) (v : Byte) : (s.setDataByte i v).data = s.data.set i v := rfl
@[simp] theorem State.setDataByte_state (i : Fin 16) (v : Byte) : (s.setDataByte i v).state = s.state := rfl
@[simp] theorem State.setDataByte_rk (i : Fin 16) (v : Byte) : (s.setDataByte i v).rk = s.rk := rfl
@[simp] theorem State.setDataByte_mrk (i : Fin 16) (v : Byte) : (s.setDataByte i v).mrk = s.mrk := rfl
@[simp] theorem State.setDataByte_masks (i : Fin 16) (v : Byte) : (s.setDataByte i v).masks = s.masks := rfl
@[simp] theorem State.setDataByte_msbox (i : Fin 16) (v : Byte) : (s.setDataByte i v).msbox = s.msbox := rfl
@[simp] theorem State.setDataByte_prng (i : Fin 16) (v : Byte) : (s.setDataByte i v).prng = s.prng := rfl
@[simp] theorem State.setDataByte_perm (i : Fin 16) (v : Byte) : (s.setDataByte i v).perm = s.perm := rfl
@[simp] theorem State.setDataByte_sched (i : Fin 16) (v : Byte) : (s.setDataByte i v).sched = s.sched := rfl
@[simp] theorem State.setDataByte_dcnt (i : Fin 16) (v : Byte) : (s.setDataByte i v).dcnt = s.dcnt := rfl
@[simp] theorem State.setDataByte_nopCount (i : Fin 16) (v : Byte) : (s.setDataByte i v).nopCount = s.nopCount := rfl
@[simp] theorem State.setDataByte_xcvr (i : Fin 16) (v : Byte) : (s.setDataByte i v).xcvr = s.xcvr := rfl
@[simp] theorem State.setDataByte_written (i : Fin 16) (v : Byte) : (s.setDataByte i v).written = { s.written with data := s.written.data.set i true } := rfl
@[simp] theorem State.setDataByte_params (i : Fin 16) (v : Byte) : (s.setDataByte i v).params = s.params := rfl
@[simp] theorem State.setDataByte_env (i : Fin 16) (v : Byte) : (s.setDataByte i v).env = s.env := rfl

/-! ### setData -/

@[simp] theorem State.setData_cfg (d : Block) : (s.setData d).cfg = s.cfg := rfl
@[simp] theorem State.setData_status (d : Block) : (s.setData d).status = s.status := rfl
@[simp] theorem State.setData_res (d : Block) : (s.setData d).res = s.res := rfl
@[simp] theorem State.setData_key (d : Block) : (s.setData d).key = s.key := rfl
@[simp] theorem State.setData_data (d : Block) : (s.setData d).data = d := rfl
@[simp] theorem State.setData_state (d : Block) : (s.setData d).state = s.state := rfl
@[simp] theorem State.setData_rk (d : Block) : (s.setData d).rk = s.rk := rfl
@[simp] theorem State.setData_mrk (d : Block) : (s.setData d).mrk = s.mrk := rfl
@[simp] theorem State.setData_masks (d : Block) : (s.setData d).masks = s.masks := rfl
@[simp] theorem State.setData_msbox (d : Block) : (s.setData d).msbox = s.msbox := rfl
@[simp] theorem State.setData_prng (d : Block) : (s.setData d).prng = s.prng := rfl
@[simp] theorem State.setData_perm (d : Block) : (s.setData d).perm = s.perm := rfl
@[simp] theorem State.setData_sched (d : Block) : (s.setData d).sched = s.sched := rfl
@[simp] theorem State.setData_dcnt (d : Block) : (s.setData d).dcnt = s.dcnt := rfl
@[simp] theorem State.setData_nopCount (d : Block) : (s.setData d).nopCount = s.nopCount := rfl
@[simp] theorem State.setData_xcvr (d : Block) : (s.setData d).xcvr = s.xcvr := rfl
@[simp] theorem State.setData_written (d : Block) : (s.setData d).written = { s.written with data := Vector.replicate 16 true } := rfl
@[simp] theorem State.setData_params (d : Block) : (s.setData d).params = s.params := rfl
@[simp] theorem State.setData_env (d : Block) : (s.setData d).env = s.env := rfl

/-! ### setState -/

@[simp] theorem State.setState_cfg (m : StateMatrix) : (s.setState m).cfg = s.cfg := rfl
@[simp] theorem State.setState_status (m : StateMatrix) : (s.setState m).status = s.status := rfl
@[simp] theorem State.setState_res (m : StateMatrix) : (s.setState m).res = s.res := rfl
@[simp] theorem State.setState_key (m : StateMatrix) : (s.setState m).key = s.key := rfl
@[simp] theorem State.setState_data (m : StateMatrix) : (s.setState m).data = s.data := rfl
@[simp] theorem State.setState_state (m : StateMatrix) : (s.setState m).state = m := rfl
@[simp] theorem State.setState_rk (m : StateMatrix) : (s.setState m).rk = s.rk := rfl
@[simp] theorem State.setState_mrk (m : StateMatrix) : (s.setState m).mrk = s.mrk := rfl
@[simp] theorem State.setState_masks (m : StateMatrix) : (s.setState m).masks = s.masks := rfl
@[simp] theorem State.setState_msbox (m : StateMatrix) : (s.setState m).msbox = s.msbox := rfl
@[simp] theorem State.setState_prng (m : StateMatrix) : (s.setState m).prng = s.prng := rfl
@[simp] theorem State.setState_perm (m : StateMatrix) : (s.setState m).perm = s.perm := rfl
@[simp] theorem State.setState_sched (m : StateMatrix) : (s.setState m).sched = s.sched := rfl
@[simp] theorem State.setState_dcnt (m : StateMatrix) : (s.setState m).dcnt = s.dcnt := rfl
@[simp] theorem State.setState_nopCount (m : StateMatrix) : (s.setState m).nopCount = s.nopCount := rfl
@[simp] theorem State.setState_xcvr (m : StateMatrix) : (s.setState m).xcvr = s.xcvr := rfl
@[simp] theorem State.setState_written (m : StateMatrix) : (s.setState m).written = { s.written with state := true } := rfl
@[simp] theorem State.setState_params (m : StateMatrix) : (s.setState m).params = s.params := rfl
@[simp] theorem State.setState_env (m : StateMatrix) : (s.setState m).env = s.env := rfl

/-! ### setRk -/

@[simp] theorem State.setRk_cfg (t : Vector Block Config.nRoundKeys) : (s.setRk t).cfg = s.cfg := rfl
@[simp] theorem State.setRk_status (t : Vector Block Config.nRoundKeys) : (s.setRk t).status = s.status := rfl
@[simp] theorem State.setRk_res (t : Vector Block Config.nRoundKeys) : (s.setRk t).res = s.res := rfl
@[simp] theorem State.setRk_key (t : Vector Block Config.nRoundKeys) : (s.setRk t).key = s.key := rfl
@[simp] theorem State.setRk_data (t : Vector Block Config.nRoundKeys) : (s.setRk t).data = s.data := rfl
@[simp] theorem State.setRk_state (t : Vector Block Config.nRoundKeys) : (s.setRk t).state = s.state := rfl
@[simp] theorem State.setRk_rk (t : Vector Block Config.nRoundKeys) : (s.setRk t).rk = t := rfl
@[simp] theorem State.setRk_mrk (t : Vector Block Config.nRoundKeys) : (s.setRk t).mrk = s.mrk := rfl
@[simp] theorem State.setRk_masks (t : Vector Block Config.nRoundKeys) : (s.setRk t).masks = s.masks := rfl
@[simp] theorem State.setRk_msbox (t : Vector Block Config.nRoundKeys) : (s.setRk t).msbox = s.msbox := rfl
@[simp] theorem State.setRk_prng (t : Vector Block Config.nRoundKeys) : (s.setRk t).prng = s.prng := rfl
@[simp] theorem State.setRk_perm (t : Vector Block Config.nRoundKeys) : (s.setRk t).perm = s.perm := rfl
@[simp] theorem State.setRk_sched (t : Vector Block Config.nRoundKeys) : (s.setRk t).sched = s.sched := rfl
@[simp] theorem State.setRk_dcnt (t : Vector Block Config.nRoundKeys) : (s.setRk t).dcnt = s.dcnt := rfl
@[simp] theorem State.setRk_nopCount (t : Vector Block Config.nRoundKeys) : (s.setRk t).nopCount = s.nopCount := rfl
@[simp] theorem State.setRk_xcvr (t : Vector Block Config.nRoundKeys) : (s.setRk t).xcvr = s.xcvr := rfl
@[simp] theorem State.setRk_written (t : Vector Block Config.nRoundKeys) : (s.setRk t).written = s.written := rfl
@[simp] theorem State.setRk_params (t : Vector Block Config.nRoundKeys) : (s.setRk t).params = s.params := rfl
@[simp] theorem State.setRk_env (t : Vector Block Config.nRoundKeys) : (s.setRk t).env = s.env := rfl

/-! ### setMrk -/

@[simp] theorem State.setMrk_cfg (t : Vector Block Config.nRoundKeys) : (s.setMrk t).cfg = s.cfg := rfl
@[simp] theorem State.setMrk_status (t : Vector Block Config.nRoundKeys) : (s.setMrk t).status = s.status := rfl
@[simp] theorem State.setMrk_res (t : Vector Block Config.nRoundKeys) : (s.setMrk t).res = s.res := rfl
@[simp] theorem State.setMrk_key (t : Vector Block Config.nRoundKeys) : (s.setMrk t).key = s.key := rfl
@[simp] theorem State.setMrk_data (t : Vector Block Config.nRoundKeys) : (s.setMrk t).data = s.data := rfl
@[simp] theorem State.setMrk_state (t : Vector Block Config.nRoundKeys) : (s.setMrk t).state = s.state := rfl
@[simp] theorem State.setMrk_rk (t : Vector Block Config.nRoundKeys) : (s.setMrk t).rk = s.rk := rfl
@[simp] theorem State.setMrk_mrk (t : Vector Block Config.nRoundKeys) : (s.setMrk t).mrk = t := rfl
@[simp] theorem State.setMrk_masks (t : Vector Block Config.nRoundKeys) : (s.setMrk t).masks = s.masks := rfl
@[simp] theorem State.setMrk_msbox (t : Vector Block Config.nRoundKeys) : (s.setMrk t).msbox = s.msbox := rfl
@[simp] theorem State.setMrk_prng (t : Vector Block Config.nRoundKeys) : (s.setMrk t).prng = s.prng := rfl
@[simp] theorem State.setMrk_perm (t : Vector Block Config.nRoundKeys) : (s.setMrk t).perm = s.perm := rfl
@[simp] theorem State.setMrk_sched (t : Vector Block Config.nRoundKeys) : (s.setMrk t).sched = s.sched := rfl
@[simp] theorem State.setMrk_dcnt (t : Vector Block Config.nRoundKeys) : (s.setMrk t).dcnt = s.dcnt := rfl
@[simp] theorem State.setMrk_nopCount (t : Vector Block Config.nRoundKeys) : (s.setMrk t).nopCount = s.nopCount := rfl
@[simp] theorem State.setMrk_xcvr (t : Vector Block Config.nRoundKeys) : (s.setMrk t).xcvr = s.xcvr := rfl
@[simp] theorem State.setMrk_written (t : Vector Block Config.nRoundKeys) : (s.setMrk t).written = { s.written with mrk := true } := rfl
@[simp] theorem State.setMrk_params (t : Vector Block Config.nRoundKeys) : (s.setMrk t).params = s.params := rfl
@[simp] theorem State.setMrk_env (t : Vector Block Config.nRoundKeys) : (s.setMrk t).env = s.env := rfl

/-! ### setMasks -/

@[simp] theorem State.setMasks_cfg (m : Masks) : (s.setMasks m).cfg = s.cfg := rfl
@[simp] theorem State.setMasks_status (m : Masks) : (s.setMasks m).status = s.status := rfl
@[simp] theorem State.setMasks_res (m : Masks) : (s.setMasks m).res = s.res := rfl
@[simp] theorem State.setMasks_key (m : Masks) : (s.setMasks m).key = s.key := rfl
@[simp] theorem State.setMasks_data (m : Masks) : (s.setMasks m).data = s.data := rfl
@[simp] theorem State.setMasks_state (m : Masks) : (s.setMasks m).state = s.state := rfl
@[simp] theorem State.setMasks_rk (m : Masks) : (s.setMasks m).rk = s.rk := rfl
@[simp] theorem State.setMasks_mrk (m : Masks) : (s.setMasks m).mrk = s.mrk := rfl
@[simp] theorem State.setMasks_masks (m : Masks) : (s.setMasks m).masks = m := rfl
@[simp] theorem State.setMasks_msbox (m : Masks) : (s.setMasks m).msbox = s.msbox := rfl
@[simp] theorem State.setMasks_prng (m : Masks) : (s.setMasks m).prng = s.prng := rfl
@[simp] theorem State.setMasks_perm (m : Masks) : (s.setMasks m).perm = s.perm := rfl
@[simp] theorem State.setMasks_sched (m : Masks) : (s.setMasks m).sched = s.sched := rfl
@[simp] theorem State.setMasks_dcnt (m : Masks) : (s.setMasks m).dcnt = s.dcnt := rfl
@[simp] theorem State.setMasks_nopCount (m : Masks) : (s.setMasks m).nopCount = s.nopCount := rfl
@[simp] theorem State.setMasks_xcvr (m : Masks) : (s.setMasks m).xcvr = s.xcvr := rfl
@[simp] theorem State.setMasks_written (m : Masks) : (s.setMasks m).written = { s.written with masks := true } := rfl
@[simp] theorem State.setMasks_params (m : Masks) : (s.setMasks m).params = s.params := rfl
@[simp] theorem State.setMasks_env (m : Masks) : (s.setMasks m).env = s.env := rfl

/-! ### setMsbox -/

@[simp] theorem State.setMsbox_cfg (t : Vector Byte 256) : (s.setMsbox t).cfg = s.cfg := rfl
@[simp] theorem State.setMsbox_status (t : Vector Byte 256) : (s.setMsbox t).status = s.status := rfl
@[simp] theorem State.setMsbox_res (t : Vector Byte 256) : (s.setMsbox t).res = s.res := rfl
@[simp] theorem State.setMsbox_key (t : Vector Byte 256) : (s.setMsbox t).key = s.key := rfl
@[simp] theorem State.setMsbox_data (t : Vector Byte 256) : (s.setMsbox t).data = s.data := rfl
@[simp] theorem State.setMsbox_state (t : Vector Byte 256) : (s.setMsbox t).state = s.state := rfl
@[simp] theorem State.setMsbox_rk (t : Vector Byte 256) : (s.setMsbox t).rk = s.rk := rfl
@[simp] theorem State.setMsbox_mrk (t : Vector Byte 256) : (s.setMsbox t).mrk = s.mrk := rfl
@[simp] theorem State.setMsbox_masks (t : Vector Byte 256) : (s.setMsbox t).masks = s.masks := rfl
@[simp] theorem State.setMsbox_msbox (t : Vector Byte 256) : (s.setMsbox t).msbox = t := rfl
@[simp] theorem State.setMsbox_prng (t : Vector Byte 256) : (s.setMsbox t).prng = s.prng := rfl
@[simp] theorem State.setMsbox_perm (t : Vector Byte 256) : (s.setMsbox t).perm = s.perm := rfl
@[simp] theorem State.setMsbox_sched (t : Vector Byte 256) : (s.setMsbox t).sched = s.sched := rfl
@[simp] theorem State.setMsbox_dcnt (t : Vector Byte 256) : (s.setMsbox t).dcnt = s.dcnt := rfl
@[simp] theorem State.setMsbox_nopCount (t : Vector Byte 256) : (s.setMsbox t).nopCount = s.nopCount := rfl
@[simp] theorem State.setMsbox_xcvr (t : Vector Byte 256) : (s.setMsbox t).xcvr = s.xcvr := rfl
@[simp] theorem State.setMsbox_written (t : Vector Byte 256) : (s.setMsbox t).written = { s.written with msbox := true } := rfl
@[simp] theorem State.setMsbox_params (t : Vector Byte 256) : (s.setMsbox t).params = s.params := rfl
@[simp] theorem State.setMsbox_env (t : Vector Byte 256) : (s.setMsbox t).env = s.env := rfl

/-! ### setPrng -/

@[simp] theorem State.setPrng_cfg (x : Byte) : (s.setPrng x).cfg = s.cfg := rfl
@[simp] theorem State.setPrng_status (x : Byte) : (s.setPrng x).status = s.status := rfl
@[simp] theorem State.setPrng_res (x : Byte) : (s.setPrng x).res = s.res := rfl
@[simp] theorem State.setPrng_key (x : Byte) : (s.setPrng x).key = s.key := rfl
@[simp] theorem State.setPrng_data (x : Byte) : (s.setPrng x).data = s.data := rfl
@[simp] theorem State.setPrng_state (x : Byte) : (s.setPrng x).state = s.state := rfl
@[simp] theorem State.setPrng_rk (x : Byte) : (s.setPrng x).rk = s.rk := rfl
@[simp] theorem State.setPrng_mrk (x : Byte) : (s.setPrng x).mrk = s.mrk := rfl
@[simp] theorem State.setPrng_masks (x : Byte) : (s.setPrng x).masks = s.masks := rfl
@[simp] theorem State.setPrng_msbox (x : Byte) : (s.setPrng x).msbox = s.msbox := rfl
@[simp] theorem State.setPrng_prng (x : Byte) : (s.setPrng x).prng = x := rfl
@[simp] theorem State.setPrng_perm (x : Byte) : (s.setPrng x).perm = s.perm := rfl
@[simp] theorem State.setPrng_sched (x : Byte) : (s.setPrng x).sched = s.sched := rfl
@[simp] theorem State.setPrng_dcnt (x : Byte) : (s.setPrng x).dcnt = s.dcnt := rfl
@[simp] theorem State.setPrng_nopCount (x : Byte) : (s.setPrng x).nopCount = s.nopCount := rfl
@[simp] theorem State.setPrng_xcvr (x : Byte) : (s.setPrng x).xcvr = s.xcvr := rfl
@[simp] theorem State.setPrng_written (x : Byte) : (s.setPrng x).written = s.written := rfl
@[simp] theorem State.setPrng_params (x : Byte) : (s.setPrng x).params = s.params := rfl
@[simp] theorem State.setPrng_env (x : Byte) : (s.setPrng x).env = s.env := rfl

/-! ### setPerm -/

@[simp] theorem State.setPerm_cfg (p : Vector (Fin 16) 16) : (s.setPerm p).cfg = s.cfg := rfl
@[simp] theorem State.setPerm_status (p : Vector (Fin 16) 16) : (s.setPerm p).status = s.status := rfl
@[simp] theorem State.setPerm_res (p : Vector (Fin 16) 16) : (s.setPerm p).res = s.res := rfl
@[simp] theorem State.setPerm_key (p : Vector (Fin 16) 16) : (s.setPerm p).key = s.key := rfl
@[simp] theorem State.setPerm_data (p : Vector (Fin 16) 16) : (s.setPerm p).data = s.data := rfl
@[simp] theorem State.setPerm_state (p : Vector (Fin 16) 16) : (s.setPerm p).state = s.state := rfl
@[simp] theorem State.setPerm_rk (p : Vector (Fin 16) 16) : (s.setPerm p).rk = s.rk := rfl
@[simp] theorem State.setPerm_mrk (p : Vector (Fin 16) 16) : (s.setPerm p).mrk = s.mrk := rfl
@[simp] theorem State.setPerm_masks (p : Vector (Fin 16) 16) : (s.setPerm p).masks = s.masks := rfl
@[simp] theorem State.setPerm_msbox (p : Vector (Fin 16) 16) : (s.setPerm p).msbox = s.msbox := rfl
@[simp] theorem State.setPerm_prng (p : Vector (Fin 16) 16) : (s.setPerm p).prng = s.prng := rfl
@[simp] theorem State.setPerm_perm (p : Vector (Fin 16) 16) : (s.setPerm p).perm = p := rfl
@[simp] theorem State.setPerm_sched (p : Vector (Fin 16) 16) : (s.setPerm p).sched = s.sched := rfl
@[simp] theorem State.setPerm_dcnt (p : Vector (Fin 16) 16) : (s.setPerm p).dcnt = s.dcnt := rfl
@[simp] theorem State.setPerm_nopCount (p : Vector (Fin 16) 16) : (s.setPerm p).nopCount = s.nopCount := rfl
@[simp] theorem State.setPerm_xcvr (p : Vector (Fin 16) 16) : (s.setPerm p).xcvr = s.xcvr := rfl
@[simp] theorem State.setPerm_written (p : Vector (Fin 16) 16) : (s.setPerm p).written = { s.written with perm := true } := rfl
@[simp] theorem State.setPerm_params (p : Vector (Fin 16) 16) : (s.setPerm p).params = s.params := rfl
@[simp] theorem State.setPerm_env (p : Vector (Fin 16) 16) : (s.setPerm p).env = s.env := rfl

/-! ### setSched -/

@[simp] theorem State.setSched_cfg (t : Vector Byte Config.nDummy) : (s.setSched t).cfg = s.cfg := rfl
@[simp] theorem State.setSched_status (t : Vector Byte Config.nDummy) : (s.setSched t).status = s.status := rfl
@[simp] theorem State.setSched_res (t : Vector Byte Config.nDummy) : (s.setSched t).res = s.res := rfl
@[simp] theorem State.setSched_key (t : Vector Byte Config.nDummy) : (s.setSched t).key = s.key := rfl
@[simp] theorem State.setSched_data (t : Vector Byte Config.nDummy) : (s.setSched t).data = s.data := rfl
@[simp] theorem State.setSched_state (t : Vector Byte Config.nDummy) : (s.setSched t).state = s.state := rfl
@[simp] theorem State.setSched_rk (t : Vector Byte Config.nDummy) : (s.setSched t).rk = s.rk := rfl
@[simp] theorem State.setSched_mrk (t : Vector Byte Config.nDummy) : (s.setSched t).mrk = s.mrk := rfl
@[simp] theorem State.setSched_masks (t : Vector Byte Config.nDummy) : (s.setSched t).masks = s.masks := rfl
@[simp] theorem State.setSched_msbox (t : Vector Byte Config.nDummy) : (s.setSched t).msbox = s.msbox := rfl
@[simp] theorem State.setSched_prng (t : Vector Byte Config.nDummy) : (s.setSched t).prng = s.prng := rfl
@[simp] theorem State.setSched_perm (t : Vector Byte Config.nDummy) : (s.setSched t).perm = s.perm := rfl
@[simp] theorem State.setSched_sched (t : Vector Byte Config.nDummy) : (s.setSched t).sched = t := rfl
@[simp] theorem State.setSched_dcnt (t : Vector Byte Config.nDummy) : (s.setSched t).dcnt = s.dcnt := rfl
@[simp] theorem State.setSched_nopCount (t : Vector Byte Config.nDummy) : (s.setSched t).nopCount = s.nopCount := rfl
@[simp] theorem State.setSched_xcvr (t : Vector Byte Config.nDummy) : (s.setSched t).xcvr = s.xcvr := rfl
@[simp] theorem State.setSched_written (t : Vector Byte Config.nDummy) : (s.setSched t).written = { s.written with sched := true } := rfl
@[simp] theorem State.setSched_params (t : Vector Byte Config.nDummy) : (s.setSched t).params = s.params := rfl
@[simp] theorem State.setSched_env (t : Vector Byte Config.nDummy) : (s.setSched t).env = s.env := rfl

/-! ### setCounters -/

@[simp] theorem State.setCounters_cfg (d : Nat) (n : Word16) : (s.setCounters d n).cfg = s.cfg := rfl
@[simp] theorem State.setCounters_status (d : Nat) (n : Word16) : (s.setCounters d n).status = s.status := rfl
@[simp] theorem State.setCounters_res (d : Nat) (n : Word16) : (s.setCounters d n).res = s.res := rfl
@[simp] theorem State.setCounters_key (d : Nat) (n : Word16) : (s.setCounters d n).key = s.key := rfl
@[simp] theorem State.setCounters_data (d : Nat) (n : Word16) : (s.setCounters d n).data = s.data := rfl
@[simp] theorem State.setCounters_state (d : Nat) (n : Word16) : (s.setCounters d n).state = s.state := rfl
@[simp] theorem State.setCounters_rk (d : Nat) (n : Word16) : (s.setCounters d n).rk = s.rk := rfl
@[simp] theorem State.setCounters_mrk (d : Nat) (n : Word16) : (s.setCounters d n).mrk = s.mrk := rfl
@[simp] theorem State.setCounters_masks (d : Nat) (n : Word16) : (s.setCounters d n).masks = s.masks := rfl
@[simp] theorem State.setCounters_msbox (d : Nat) (n : Word16) : (s.setCounters d n).msbox = s.msbox := rfl
@[simp] theorem State.setCounters_prng (d : Nat) (n : Word16) : (s.setCounters d n).prng = s.prng := rfl
@[simp] theorem State.setCounters_perm (d : Nat) (n : Word16) : (s.setCounters d n).perm = s.perm := rfl
@[simp] theorem State.setCounters_sched (d : Nat) (n : Word16) : (s.setCounters d n).sched = s.sched := rfl
@[simp] theorem State.setCounters_dcnt (d : Nat) (n : Word16) : (s.setCounters d n).dcnt = d := rfl
@[simp] theorem State.setCounters_nopCount (d : Nat) (n : Word16) : (s.setCounters d n).nopCount = n := rfl
@[simp] theorem State.setCounters_xcvr (d : Nat) (n : Word16) : (s.setCounters d n).xcvr = s.xcvr := rfl
@[simp] theorem State.setCounters_written (d : Nat) (n : Word16) : (s.setCounters d n).written = s.written := rfl
@[simp] theorem State.setCounters_params (d : Nat) (n : Word16) : (s.setCounters d n).params = s.params := rfl
@[simp] theorem State.setCounters_env (d : Nat) (n : Word16) : (s.setCounters d n).env = s.env := rfl

/-! ### setXcvr -/

@[simp] theorem State.setXcvr_cfg (x : Xcvr) : (s.setXcvr x).cfg = s.cfg := rfl
@[simp] theorem State.setXcvr_status (x : Xcvr) : (s.setXcvr x).status = s.status := rfl
@[simp] theorem State.setXcvr_res (x : Xcvr) : (s.setXcvr x).res = s.res := rfl
@[simp] theorem State.setXcvr_key (x : Xcvr) : (s.setXcvr x).key = s.key := rfl
@[simp] theorem State.setXcvr_data (x : Xcvr) : (s.setXcvr x).data = s.data := rfl
@[simp] theorem State.setXcvr_state (x : Xcvr) : (s.setXcvr x).state = s.state := rfl
@[simp] theorem State.setXcvr_rk (x : Xcvr) : (s.setXcvr x).rk = s.rk := rfl
@[simp] theorem State.setXcvr_mrk (x : Xcvr) : (s.setXcvr x).mrk = s.mrk := rfl
@[simp] theorem State.setXcvr_masks (x : Xcvr) : (s.setXcvr x).masks = s.masks := rfl
@[simp] theorem State.setXcvr_msbox (x : Xcvr) : (s.setXcvr x).msbox = s.msbox := rfl
@[simp] theorem State.setXcvr_prng (x : Xcvr) : (s.setXcvr x).prng = s.prng := rfl
@[simp] theorem State.setXcvr_perm (x : Xcvr) : (s.setXcvr x).perm = s.perm := rfl
@[simp] theorem State.setXcvr_sched (x : Xcvr) : (s.setXcvr x).sched = s.sched := rfl
@[simp] theorem State.setXcvr_dcnt (x : Xcvr) : (s.setXcvr x).dcnt = s.dcnt := rfl
@[simp] theorem State.setXcvr_nopCount (x : Xcvr) : (s.setXcvr x).nopCount = s.nopCount := rfl
@[simp] theorem State.setXcvr_xcvr (x : Xcvr) : (s.setXcvr x).xcvr = x := rfl
@[simp] theorem State.setXcvr_written (x : Xcvr) : (s.setXcvr x).written = s.written := rfl
@[simp] theorem State.setXcvr_params (x : Xcvr) : (s.setXcvr x).params = s.params := rfl
@[simp] theorem State.setXcvr_env (x : Xcvr) : (s.setXcvr x).env = s.env := rfl

/-! ### setEnv -/

@[simp] theorem State.setEnv_cfg (e : Env) : (s.setEnv e).cfg = s.cfg := rfl
@[simp] theorem State.setEnv_status (e : Env) : (s.setEnv e).status = s.status := rfl
@[simp] theorem State.setEnv_res (e : Env) : (s.setEnv e).res = s.res := rfl
@[simp] theorem State.setEnv_key (e : Env) : (s.setEnv e).key = s.key := rfl
@[simp] theorem State.setEnv_data (e : Env) : (s.setEnv e).data = s.data := rfl
@[simp] theorem State.setEnv_state (e : Env) : (s.setEnv e).state = s.state := rfl
@[simp] theorem State.setEnv_rk (e : Env) : (s.setEnv e).rk = s.rk := rfl
@[simp] theorem State.setEnv_mrk (e : Env) : (s.setEnv e).mrk = s.mrk := rfl
@[simp] theorem State.setEnv_masks (e : Env) : (s.setEnv e).masks = s.masks := rfl
@[simp] theorem State.setEnv_msbox (e : Env) : (s.setEnv e).msbox = s.msbox := rfl
@[simp] theorem State.setEnv_prng (e : Env) : (s.setEnv e).prng = s.prng := rfl
@[simp] theorem State.setEnv_perm (e : Env) : (s.setEnv e).perm = s.perm := rfl
@[simp] theorem State.setEnv_sched (e : Env) : (s.setEnv e).sched = s.sched := rfl
@[simp] theorem State.setEnv_dcnt (e : Env) : (s.setEnv e).dcnt = s.dcnt := rfl
@[simp] theorem State.setEnv_nopCount (e : Env) : (s.setEnv e).nopCount = s.nopCount := rfl
@[simp] theorem State.setEnv_xcvr (e : Env) : (s.setEnv e).xcvr = s.xcvr := rfl
@[simp] theorem State.setEnv_written (e : Env) : (s.setEnv e).written = s.written := rfl
@[simp] theorem State.setEnv_params (e : Env) : (s.setEnv e).params = s.params := rfl
@[simp] theorem State.setEnv_env (e : Env) : (s.setEnv e).env = e := rfl

/-! ### raise -/

@[simp] theorem State.raise_cfg (e : CmdError) : (s.raise e).cfg = s.cfg := rfl
@[simp] theorem State.raise_status (e : CmdError) : (s.raise e).status = s.status ||| e.statusBit := rfl
@[simp] theorem State.raise_res (e : CmdError) : (s.raise e).res = s.res := rfl
@[simp] theorem State.raise_key (e : CmdError) : (s.raise e).key = s.key := rfl
@[simp] theorem State.raise_data (e : CmdError) : (s.raise e).data = s.data := rfl
@[simp] theorem State.raise_state (e : CmdError) : (s.raise e).state = s.state := rfl
@[simp] theorem State.raise_rk (e : CmdError) : (s.raise e).rk = s.rk := rfl
@[simp] theorem State.raise_mrk (e : CmdError) : (s.raise e).mrk = s.mrk := rfl
@[simp] theorem State.raise_masks (e : CmdError) : (s.raise e).masks = s.masks := rfl
@[simp] theorem State.raise_msbox (e : CmdError) : (s.raise e).msbox = s.msbox := rfl
@[simp] theorem State.raise_prng (e : CmdError) : (s.raise e).prng = s.prng := rfl
@[simp] theorem State.raise_perm (e : CmdError) : (s.raise e).perm = s.perm := rfl
@[simp] theorem State.raise_sched (e : CmdError) : (s.raise e).sched = s.sched := rfl
@[simp] theorem State.raise_dcnt (e : CmdError) : (s.raise e).dcnt = s.dcnt := rfl
@[simp] theorem State.raise_nopCount (e : CmdError) : (s.raise e).nopCount = s.nopCount := rfl
@[simp] theorem State.raise_xcvr (e : CmdError) : (s.raise e).xcvr = s.xcvr := rfl
@[simp] theorem State.raise_written (e : CmdError) : (s.raise e).written = s.written := rfl
@[simp] theorem State.raise_params (e : CmdError) : (s.raise e).params = s.params := rfl
@[simp] theorem State.raise_env (e : CmdError) : (s.raise e).env = s.env := rfl

end

end Sys2Proof.Machine
end

