-- ==== Sys2Proof/Laws/Ops.lean ====
section
/-! SUPPORT. The shared operations, one law each: what settling, sequencing, an operand and a guarded read come to. -/

namespace Sys2Proof.Machine

/-! ### settle -/

@[simp] theorem settle_done (s t : State) : settle s (.done t) = .next t := rfl

@[simp] theorem settle_raised (s : State) (e : CmdError) (env : Env) :
    settle s (.raised e env) = .next ((s.setEnv env).raise e) := rfl

@[simp] theorem settle_stopped (s : State) (f : Fault) : settle s (.stopped f) = .fault f := rfl

/-- A command that answers a next state has had its effect, or has raised and changed its STATUS bit only. -/
theorem settle_next_cases {s t : State} {r : Effect} (h : settle s r = .next t) :
    r = .done t ∨ ∃ e env, r = .raised e env ∧ t = (s.setEnv env).raise e := by
  cases r with
  | done u => left; simp only [settle_done, Host.Outcome.next.injEq] at h; rw [h]
  | raised e env =>
    right; simp only [settle_raised, Host.Outcome.next.injEq] at h; exact ⟨e, env, rfl, h.symm⟩
  | stopped f => simp at h

/-! ### andThen -/

@[simp] theorem andThen_done (s : State) (k : State → Effect) : (Effect.done s).andThen k = k s := rfl

@[simp] theorem andThen_raised (e : CmdError) (env : Env) (k : State → Effect) :
    (Effect.raised e env).andThen k = .raised e env := rfl

@[simp] theorem andThen_stopped (f : Fault) (k : State → Effect) : (Effect.stopped f).andThen k = .stopped f := rfl

/-- A sequence has its effect exactly when both parts have theirs. -/
theorem andThen_eq_done_iff {r : Effect} {k : State → Effect} {t : State} :
    r.andThen k = .done t ↔ ∃ u, r = .done u ∧ k u = .done t := by
  cases r <;> simp

/-! ### operand -/

theorem operand_inRange {n : Nat} {a : Byte} (s : State) (k : Fin n → Effect) (h : a.toNat < n) :
    operand n a s k = k ⟨a.toNat, h⟩ := dif_pos h

theorem operand_outOfRange {n : Nat} {a : Byte} (s : State) (k : Fin n → Effect) (h : n ≤ a.toNat) :
    operand n a s k = .raised .illegalOperand s.env := dif_neg (by omega)

/-! ### reading -/

theorem reading_of_readable {es : List Element} {s : State} (h : ∀ e ∈ es, s.readable e = true) (k : Effect) :
    reading es s k = k := by
  have : es.find? (fun e => !s.readable e) = none := by
    rw [List.find?_eq_none]; intro e he; simp [h e he]
  simp only [reading, this]

/-- A guarded read either goes on, every element readable, or stops at one that is not. -/
theorem reading_cases (es : List Element) (s : State) (k : Effect) :
    ((∀ e ∈ es, s.readable e = true) ∧ reading es s k = k) ∨
    ∃ e ∈ es, s.readable e = false ∧ reading es s k = .stopped (.unwrittenRead e) := by
  cases h : es.find? (fun e => !s.readable e) with
  | none =>
    rw [List.find?_eq_none] at h
    exact .inl ⟨fun e he => by simpa using h e he, reading_of_readable (fun e he => by simpa using h e he) k⟩
  | some e =>
    refine .inr ⟨e, List.mem_of_find?_eq_some h, by simpa using List.find?_some h, ?_⟩
    simp only [reading, h]

theorem reading_eq_done_iff {es : List Element} {s : State} {k : Effect} {t : State} :
    reading es s k = .done t ↔ (∀ e ∈ es, s.readable e = true) ∧ k = .done t := by
  constructor
  · intro h
    rcases reading_cases es s k with ⟨hr, hk⟩ | ⟨e, -, -, hk⟩
    · exact ⟨hr, hk ▸ h⟩
    · rw [hk] at h; cases h
  · rintro ⟨hr, rfl⟩; exact reading_of_readable hr _

/-- With strictReads off, every element can be read (R36, log entry 2). -/
theorem readable_of_not_strict {s : State} (h : s.params.strictReads = false) (e : Element) : s.readable e = true := by
  simp [State.readable, h]

/-- A written element can be read. -/
theorem readable_of_holds {s : State} {e : Element} (h : s.holds e = true) : s.readable e = true := by
  simp [State.readable, h]

/-- The STATUS bit of an error is the bit its code numbers (R380). -/
theorem statusBit_getLsbD (e : CmdError) (i : Nat) : e.statusBit.getLsbD i = decide (i = e.code) := by
  by_cases hi : i < 8
  · have : ∀ j : Fin 8, e.statusBit.getLsbD j.val = decide (j.val = e.code) := by cases e <;> decide
    exact this ⟨i, hi⟩
  · have hc : i ≠ e.code := by cases e <;> simp only [CmdError.code] <;> omega
    rw [BitVec.getLsbD_of_ge e.statusBit i (by omega), decide_eq_false hc]

/-- The error's bit is set after it is raised, and so is every bit set before (R23, R380). -/
theorem raise_status_getLsbD (s : State) (e : CmdError) (i : Nat) :
    (s.raise e).status.getLsbD i = (s.status.getLsbD i || decide (i = e.code)) := by
  simp only [State.raise_status, BitVec.getLsbD_or, statusBit_getLsbD]

end Sys2Proof.Machine
end

