-- ==== Sys2Proof/Laws/Prng.lean ====
section
/-! SUPPORT. The oracle's answers in order, and what a seeding comes to (R182, R183). -/

namespace Sys2Proof.Machine

/-! ### The oracle -/

@[simp] theorem Env.afterConversions_zero (e : Env) : e.afterConversions 0 = e := rfl

theorem Env.afterConversion_eq (e : Env) : e.afterConversion = e.afterConversions 1 := by
  simp [Env.afterConversion, Env.afterConversions]

theorem Env.afterConversion_conversionAt (e : Env) (t : Nat) :
    e.afterConversion.conversionAt t = e.conversionAt (t + 1) := by
  cases h : e.adcQueue <;>
    simp [Env.afterConversion, Env.conversionAt, h, Nat.add_assoc, Nat.add_comm 1]

theorem Env.nextConversion_eq (e : Env) : e.nextConversion = e.conversionAt 0 := by
  cases h : e.adcQueue <;> simp [Env.nextConversion, Env.conversionAt, h]

theorem Env.afterConversion_afterConversions (e : Env) (n : Nat) :
    e.afterConversion.afterConversions n = e.afterConversions (n + 1) := by
  simp [Env.afterConversion, Env.afterConversions, Nat.add_assoc, Nat.add_comm 1]

theorem Env.afterConversions_conversionAt (e : Env) (n t : Nat) :
    (e.afterConversions n).conversionAt t = e.conversionAt (n + t) := by
  simp [Env.afterConversions, Env.conversionAt, Nat.add_assoc]

theorem Env.afterConversions_add (e : Env) (n k : Nat) :
    (e.afterConversions n).afterConversions k = e.afterConversions (n + k) := by
  simp [Env.afterConversions, Nat.add_assoc]

/-- The conversion `t` from now answers with a bit (R182). -/
def Env.answersAt (canFail : Bool) (e : Env) (t : Nat) : Prop :=
  canFail = true → (e.conversionAt t).unavailable = false

theorem conversionAnswer_of_available {canFail : Bool} {c : Conversion} (h : canFail = true → c.unavailable = false) :
    conversionAnswer canFail c = some c.bit := by
  cases canFail <;> simp_all [conversionAnswer]

/-! ### Seeding -/

/-- `n` conversions shifted into `acc`, the first highest (R183). -/
def shiftedBits (e : Env) : Nat → Byte → Byte
  | 0, acc => acc
  | n + 1, acc => shiftedBits e.afterConversion n ((acc <<< 1) ||| zext8 (e.conversionAt 0).bit)

/-- When the next `n` conversions answer, all of them are shifted in and no more are made. -/
theorem seedBits_of_answers {canFail : Bool} {n : Nat} {e : Env} (h : ∀ t < n, e.answersAt canFail t) (acc : Byte) :
    seedBits canFail n acc e = (some (shiftedBits e n acc), e.afterConversions n) := by
  induction n generalizing e acc with
  | zero => rfl
  | succ n ih =>
    have h0 : conversionAnswer canFail e.nextConversion = some (e.conversionAt 0).bit := by
      rw [Env.nextConversion_eq]; exact conversionAnswer_of_available (h 0 (by omega))
    have hrest : ∀ t < n, e.afterConversion.answersAt canFail t := by
      intro t ht hc
      rw [Env.afterConversion_conversionAt]
      exact h (t + 1) (by omega) hc
    rw [seedBits, h0]
    simp only [ih hrest, Env.afterConversion_afterConversions, shiftedBits]

/-- When the conversion `k` from now is the first UNAVAILABLE one, the seeding ends there. -/
theorem seedBits_of_unavailable {n k : Nat} {e : Env} (hk : k < n) (h : ∀ t < k, e.answersAt true t)
    (hu : (e.conversionAt k).unavailable = true) (acc : Byte) :
    seedBits true n acc e = (none, e.afterConversions (k + 1)) := by
  induction k generalizing e acc n with
  | zero =>
    obtain ⟨n, rfl⟩ : ∃ m, n = m + 1 := ⟨n - 1, by omega⟩
    have h0 : conversionAnswer true e.nextConversion = none := by
      rw [Env.nextConversion_eq]; simp [conversionAnswer, hu]
    rw [seedBits, h0]; simp only [Env.afterConversion_eq, Nat.zero_add]
  | succ k ih =>
    obtain ⟨n, rfl⟩ : ∃ m, n = m + 1 := ⟨n - 1, by omega⟩
    have h0 : conversionAnswer true e.nextConversion = some (e.conversionAt 0).bit := by
      rw [Env.nextConversion_eq]; exact conversionAnswer_of_available (h 0 (by omega))
    have hrest : ∀ t < k, e.afterConversion.answersAt true t := by
      intro t ht hc
      rw [Env.afterConversion_conversionAt]
      exact h (t + 1) (by omega) hc
    have hu' : (e.afterConversion.conversionAt k).unavailable = true := by
      rw [Env.afterConversion_conversionAt]; exact hu
    have hk' : k < n := by omega
    rw [seedBits, h0]
    simp only [ih hk' hrest hu', Env.afterConversion_afterConversions]

/-- Whatever it answers, a seeding moves the oracle's queue and counter only. -/
theorem seedBits_env (canFail : Bool) (n : Nat) (acc : Byte) (e : Env) :
    ∃ k ≤ n, (seedBits canFail n acc e).2 = e.afterConversions k := by
  induction n generalizing acc e with
  | zero => exact ⟨0, Nat.le_refl _, rfl⟩
  | succ n ih =>
    rw [seedBits]
    cases conversionAnswer canFail e.nextConversion with
    | none => exact ⟨1, by omega, Env.afterConversion_eq e⟩
    | some b =>
      obtain ⟨k, hk, he⟩ := ih ((acc <<< 1) ||| zext8 b) e.afterConversion
      exact ⟨k + 1, by omega, by rw [← Env.afterConversion_afterConversions]; exact he⟩

/-- The seed of the next eight conversions. -/
def State.seed (s : State) : Byte := shiftedBits s.env 8 0

/-- A seeding whose eight conversions answer writes the seed and goes on. -/
theorem seeding_of_answers {s : State} (h : s.EntropyAnswers 8) (k : State → Effect) :
    seeding s k = k ((s.setEnv (s.env.afterConversions 8)).setPrng s.seed) := by
  simp only [seeding, seedBits_of_answers (n := 8) (e := s.env) h 0x00, State.seed]

/-- A seeding raises EntropyUnavailable at the first conversion that is unavailable (R183). -/
theorem seeding_of_unavailable {s : State} {n : Nat} (hn : n < 8) (h : s.EntropyAnswers n)
    (hc : s.params.entropyCanFail = true) (hu : (s.env.conversionAt n).unavailable = true) (k : State → Effect) :
    seeding s k = .raised .entropyUnavailable (s.env.afterConversions (n + 1)) := by
  have h' : ∀ t < n, s.env.answersAt true t := fun t ht _ => h t ht hc
  simp only [seeding, hc, seedBits_of_unavailable hn h' hu]

/-- A seeding either writes some seed and goes on, or raises; the environment moves by conversions only. -/
theorem seeding_cases (s : State) (k : State → Effect) :
    ∃ n ≤ 8, (∃ x, seeding s k = k ((s.setEnv (s.env.afterConversions n)).setPrng x)) ∨
      seeding s k = .raised .entropyUnavailable (s.env.afterConversions n) := by
  obtain ⟨n, hn, he⟩ := seedBits_env s.params.entropyCanFail 8 0x00 s.env
  refine ⟨n, hn, ?_⟩
  rw [seeding]
  cases hb : seedBits s.params.entropyCanFail 8 0x00 s.env with
  | mk o e =>
    rw [hb] at he
    cases o with
    | none => right; simp only [← he]
    | some x => left; exact ⟨x, by simp only [← he]⟩

end Sys2Proof.Machine
end

