-- ==== Sys2Proof/Laws/Hiding.lean ====
section
/-! SUPPORT. The schedule's draws, the Fisher-Yates shuffle and the dummy op (R231 to R235). -/

namespace Sys2Proof.Machine

/-! ### The draws -/

/-- With at least 6 no-ops remaining an entry is at most `rem div 6 - 1`, so at least 6 remain (R232). -/
theorem drawnEntry_le {rem : Nat} (h : 6 ≤ rem) (x : Byte) :
    x.toNat % (rem / Config.schedDiv) ≤ rem ∧ 6 ≤ rem - x.toNat % (rem / Config.schedDiv) := by
  have h1 : 0 < rem / Config.schedDiv := Nat.div_pos h (by decide)
  have h2 := Nat.mod_lt x.toNat h1
  have h3 : rem / Config.schedDiv = rem / 6 := rfl
  omega

/-- The entries and what remains make up what there was, and at least 6 remain (R232). -/
theorem drawEntries_total {n rem : Nat} (h : 6 ≤ rem) (x : Byte) :
    (drawEntries n rem x).1.sum + (drawEntries n rem x).2.1 = rem ∧ 6 ≤ (drawEntries n rem x).2.1 := by
  induction n generalizing rem x with
  | zero => exact ⟨by simp [drawEntries], h⟩
  | succ n ih =>
    obtain ⟨hle, hrem⟩ := drawnEntry_le h (prngStep x)
    obtain ⟨ih1, ih2⟩ := ih hrem (prngStep x)
    refine ⟨?_, ih2⟩
    simp only [drawEntries, List.sum_cons]
    omega

theorem drawEntries_length (n rem : Nat) (x : Byte) : (drawEntries n rem x).1.length = n := by
  induction n generalizing rem x with
  | zero => rfl
  | succ n ih => simp [drawEntries, ih]

theorem drawEntries_prng (n rem : Nat) (x : Byte) : (drawEntries n rem x).2.2 = prngStep^[n] x := by
  induction n generalizing rem x with
  | zero => rfl
  | succ n ih => simp [drawEntries, ih, Function.iterate_succ]

/-! ### The shuffle -/

theorem swapIfInBounds_perm {α : Type} {n : Nat} (v : Vector α n) (i j : Nat) : (v.swapIfInBounds i j).Perm v := by
  have h : (v.toArray.swapIfInBounds i j).Perm v.toArray := by
    unfold Array.swapIfInBounds
    split
    · split
      · exact Array.swap_perm ..
      · exact Array.Perm.refl _
    · exact Array.Perm.refl _
  rw [Vector.perm_iff_toList_perm]
  rw [Array.perm_iff_toList_perm] at h
  exact h

/-- A shuffle permutes its entries, whatever the draws (R232, R233). -/
theorem fisherYates_perm {α : Type} {n : Nat} (i : Nat) (x : Byte) (v : Vector α n) : (fisherYates i x v).1.Perm v := by
  induction i generalizing x v with
  | zero => exact Vector.Perm.refl v
  | succ i ih => exact (ih ..).trans (swapIfInBounds_perm ..)

theorem fisherYates_prng {α : Type} {n : Nat} (i : Nat) (x : Byte) (v : Vector α n) :
    (fisherYates i x v).2 = prngStep^[i] x := by
  induction i generalizing x v with
  | zero => rfl
  | succ i ih => simp [fisherYates, ih, Function.iterate_succ]

/-! ### HIDING_INIT and the dummy op -/

/-- HIDING_INIT when its seeding answers: the schedule drawn from the seed. -/
theorem hidingInit_of_answers {s : State} (h : s.EntropyAnswers 8) :
    hidingInit s = .done ((s.setEnv (s.env.afterConversions 8)).setPrng s.seed).drawnSchedule := seeding_of_answers h _

/-- HIDING_INIT either draws from some seed, or raises EntropyUnavailable. -/
theorem hidingInit_cases (s : State) :
    ∃ n ≤ 8, (∃ x, hidingInit s = .done ((s.setEnv (s.env.afterConversions n)).setPrng x).drawnSchedule) ∨
      hidingInit s = .raised .entropyUnavailable (s.env.afterConversions n) := seeding_cases s _

/-- What HIDING_INIT's drawing writes: SCHED with DUMMY_OPS, PRNG, and the counters. -/
theorem drawnSchedule_frame (s : State) :
    s.drawnSchedule = { s with
      prng := s.drawnSchedule.prng, sched := s.drawnSchedule.sched, dcnt := 0, nopCount := 0
      written := { s.written with sched := s.written.sched || s.dummyOps } } := by
  cases h : s.dummyOps <;> simp [State.drawnSchedule, h, State.setCounters, State.setPrng, State.setSched]

/-- A dummy op with DUMMY_OPS and an entry left to consume (R234). -/
theorem dummyOperation_consumes {s : State} (hd : s.dummyOps = true) (h : s.dcnt < 40) (hr : s.readable .sched = true) :
    dummyOperation s = .done (s.setCounters (s.dcnt + 1) (s.nopCount + s.sched[s.dcnt].setWidth 16)) := by
  have hr' : ∀ e ∈ [Element.sched], s.readable e = true := by simpa using hr
  rw [dummyOperation, if_pos hd, dif_pos (show s.dcnt < Config.nDummy from h), reading_of_readable hr']

/-- A 41st dummy op raises ScheduleOverrun (R384). -/
theorem dummyOperation_overrun {s : State} (hd : s.dummyOps = true) (h : 40 ≤ s.dcnt) :
    dummyOperation s = .raised .scheduleOverrun s.env := by
  rw [dummyOperation, if_pos hd, dif_neg (show ¬ s.dcnt < Config.nDummy by simp only [Config.nDummy]; omega)]

theorem dummyOperation_off {s : State} (hd : s.dummyOps = false) : dummyOperation s = .done s := by
  simp [dummyOperation, hd]

/-- Whatever a dummy op does: the two counters move, or it raises ScheduleOverrun, or SCHED is unwritten. -/
theorem dummyOperation_cases (s : State) :
    (∃ d ≤ s.dcnt + 1, ∃ n, (d ≤ s.dcnt ∨ d ≤ 40) ∧ dummyOperation s = .done (s.setCounters d n)) ∨
      dummyOperation s = .raised .scheduleOverrun s.env ∨ dummyOperation s = .stopped (.unwrittenRead .sched) := by
  cases hd : s.dummyOps with
  | false => exact .inl ⟨s.dcnt, by omega, s.nopCount, .inl (Nat.le_refl _), dummyOperation_off hd⟩
  | true =>
    by_cases h : s.dcnt < 40
    · cases hr : s.readable .sched with
      | true => exact .inl ⟨s.dcnt + 1, Nat.le_refl _, _, .inr h, dummyOperation_consumes hd h hr⟩
      | false =>
        refine .inr (.inr ?_)
        simp [dummyOperation, hd, h, reading, hr]
    · exact .inr (.inl (dummyOperation_overrun hd (by omega)))

/-- A layer's prefix, `linear` or not (R235), is a dummy op where it is active. -/
theorem dummyPrefixLinear_eq (s : State) :
    dummyPrefixLinear s = if s.prefixActive true then dummyOperation s else .done s := by
  simp [dummyPrefixLinear, State.prefixActive]

theorem dummyPrefixSub_eq (s : State) :
    dummyPrefixSub s = if s.prefixActive false then dummyOperation s else .done s := by
  simp [dummyPrefixSub, State.prefixActive]

/-- An active prefix needs DUMMY_OPS. -/
theorem dummyOps_of_prefixActive {s : State} {linear : Bool} (h : s.prefixActive linear = true) : s.dummyOps = true := by
  simp [State.prefixActive] at h; exact h.1

/-- A prefix that is ready moves the two counters as R234 says and goes on. -/
theorem dummyPrefix_of_ready {s : State} {linear : Bool} (h : s.PrefixReady linear) :
    (if s.prefixActive linear then dummyOperation s else .done s)
      = .done (s.setCounters (s.dcntAfterPrefix linear) (s.nopCountAfterPrefix linear)) := by
  cases ha : s.prefixActive linear with
  | false => simp [State.dcntAfterPrefix, State.nopCountAfterPrefix, ha, State.setCounters]
  | true =>
    obtain ⟨hd, hr⟩ := h ha
    simp [State.dcntAfterPrefix, State.nopCountAfterPrefix, ha, Vector.getD, hd,
      dummyOperation_consumes (dummyOps_of_prefixActive ha) hd hr]

end Sys2Proof.Machine
end

