-- ==== Sys2Proof/Laws/Matrix.lean ====
section
/-! SUPPORT. The state matrix and the flat block: reading an element of a matrix made or changed (R12). -/

namespace Sys2Proof

@[simp] theorem StateMatrix.get_ofFn (f : Fin 4 → Fin 4 → Byte) (r c : Fin 4) :
    (StateMatrix.ofFn f).get r c = f r c := by
  simp [StateMatrix.get, StateMatrix.ofFn]

theorem StateMatrix.ext_get {m n : StateMatrix} (h : ∀ r c, m.get r c = n.get r c) : m = n := by
  apply Vector.ext; intro i hi
  apply Vector.ext; intro j hj
  exact h ⟨i, hi⟩ ⟨j, hj⟩

/-- A write changes its own element and no other. -/
theorem StateMatrix.get_put (m : StateMatrix) (r c r' c' : Fin 4) (v : Byte) :
    (m.put r c v).get r' c' = if r = r' ∧ c = c' then v else m.get r' c' := by
  simp only [StateMatrix.get, StateMatrix.put, Fin.getElem_fin, Vector.getElem_set, Fin.ext_iff]
  by_cases hr : r.val = r'.val
  · have hr' : r = r' := Fin.ext hr
    subst hr'
    by_cases hc : c.val = c'.val <;> simp [hc]
  · simp [hr]

namespace Machine

@[simp] theorem flatRow_flatIndex (r c : Fin 4) : flatRow (flatIndex r c) = r := by
  apply Fin.ext; simp only [flatRow, flatIndex]; omega

@[simp] theorem flatCol_flatIndex (r c : Fin 4) : flatCol (flatIndex r c) = c := by
  apply Fin.ext; simp only [flatCol, flatIndex]; omega

@[simp] theorem flatIndex_row_col (k : Fin 16) : flatIndex (flatRow k) (flatCol k) = k := by
  apply Fin.ext; simp only [flatRow, flatCol, flatIndex]; omega

@[simp] theorem matrixOfBlock_get (d : Block) (r c : Fin 4) : (matrixOfBlock d).get r c = d[flatIndex r c] := by
  simp [matrixOfBlock]

@[simp] theorem blockOfMatrix_get (m : StateMatrix) (k : Fin 16) :
    (blockOfMatrix m)[k] = m.get (flatRow k) (flatCol k) := by
  simp [blockOfMatrix]

/-- Loading and storing undo each other (R264). -/
@[simp] theorem blockOfMatrix_matrixOfBlock (d : Block) : blockOfMatrix (matrixOfBlock d) = d := by
  apply Vector.ext; intro i hi
  have := blockOfMatrix_get (matrixOfBlock d) ⟨i, hi⟩
  simpa using this

end Machine

end Sys2Proof
end

