-- ==== Sys2Proof/Laws/Gf.lean ====
section
/-! SUPPORT. The multiplier is linear in each argument (R150), the inverse MixColumn map is linear (R158), and the entries
of a rotated row (R153). -/

namespace Sys2Proof.Machine

theorem byte_xor_left_comm (a b c : Byte) : a ^^^ (b ^^^ c) = b ^^^ (a ^^^ c) := by ac_rfl

/-- A byte cancels itself across another. -/
@[simp] theorem byte_xor_cancel_left (a b : Byte) : a ^^^ (a ^^^ b) = b := by
  rw [← BitVec.xor_assoc, BitVec.xor_self, BitVec.zero_xor]

theorem xtime_eq (x : Byte) : xtime x = (x <<< 1) ^^^ (if x.getLsbD 7 then 0x1B else 0) := by
  unfold xtime; split <;> simp

theorem xtime_xor (x y : Byte) : xtime (x ^^^ y) = xtime x ^^^ xtime y := by
  have hs : (x ^^^ y) <<< 1 = (x <<< 1) ^^^ (y <<< 1) := BitVec.shiftLeft_xor_distrib x y 1
  rw [xtime_eq, xtime_eq x, xtime_eq y, hs, BitVec.getLsbD_xor]
  cases x.getLsbD 7 <;> cases y.getLsbD 7 <;> simp [BitVec.xor_assoc, BitVec.xor_comm, byte_xor_left_comm]

theorem ffMulLoop_xor_left (y : Byte) (n k : Nat) (a b p q : Byte) :
    ffMulLoop y n k (a ^^^ b) (p ^^^ q) = ffMulLoop y n k a p ^^^ ffMulLoop y n k b q := by
  induction n generalizing k a b p q with
  | zero => rfl
  | succ n ih =>
    simp only [ffMulLoop, xtime_xor]
    cases y.getLsbD k
    · exact ih ..
    · rw [← ih]
      have : p ^^^ q ^^^ (a ^^^ b) = (p ^^^ a) ^^^ (q ^^^ b) := by
        ac_rfl
      simp only [this, if_true]

theorem ffMulLoop_xor_right (y z : Byte) (n k : Nat) (x p q : Byte) :
    ffMulLoop (y ^^^ z) n k x (p ^^^ q) = ffMulLoop y n k x p ^^^ ffMulLoop z n k x q := by
  induction n generalizing k x p q with
  | zero => rfl
  | succ n ih =>
    simp only [ffMulLoop, ← ih, BitVec.getLsbD_xor]
    cases y.getLsbD k <;> cases z.getLsbD k <;>
      simp [BitVec.xor_assoc, BitVec.xor_comm, byte_xor_left_comm]

/-- ffMul distributes over XOR in its first argument. -/
theorem ffMul_xor_left (a b y : Byte) : ffMul (a ^^^ b) y = ffMul a y ^^^ ffMul b y := by
  simpa [ffMul] using ffMulLoop_xor_left y 8 0 a b 0 0

/-- ffMul distributes over XOR in its second argument. -/
theorem ffMul_xor_right (x y z : Byte) : ffMul x (y ^^^ z) = ffMul x y ^^^ ffMul x z := by
  simpa [ffMul] using ffMulLoop_xor_right y z 8 0 x 0 0

/-- Entry r of an inverse MixColumn image (R158). -/
theorem invMixColumn_get (v : Vector Byte 4) (r : Fin 4) :
    (invMixColumn v)[r] = ffMul (imcmTable.get r 0) v[0] ^^^ ffMul (imcmTable.get r 1) v[1]
      ^^^ ffMul (imcmTable.get r 2) v[2] ^^^ ffMul (imcmTable.get r 3) v[3] := by
  simp [invMixColumn]

/-- The inverse MixColumn map is linear over XOR, entry by entry. -/
theorem invMixColumn_xor (v w : Vector Byte 4) (r : Fin 4) :
    (invMixColumn #v[v[0] ^^^ w[0], v[1] ^^^ w[1], v[2] ^^^ w[2], v[3] ^^^ w[3]])[r]
      = (invMixColumn v)[r] ^^^ (invMixColumn w)[r] := by
  simp only [invMixColumn_get]
  simp [ffMul_xor_right]
  ac_rfl

/-- Each row of IMCM XORs to 1, so a column of equal masks is fixed (R158). -/
theorem imcm_row_xor (r : Fin 4) :
    imcmTable.get r 0 ^^^ imcmTable.get r 1 ^^^ imcmTable.get r 2 ^^^ imcmTable.get r 3 = 1 := by
  revert r; decide

/-- Entry i of a row rotated right by k ≤ 4 (R153, R155). -/
theorem rotrRow_get (row : Vector Byte 4) (k : Fin 5) (i : Fin 4) :
    (rotrRow row k.val)[i] = row[i - Fin.ofNat 4 k.val] := by
  obtain ⟨⟨l⟩, hl⟩ := row
  match l, hl with
  | [a, b, c, d], _ => fin_cases k <;> fin_cases i <;> rfl

end Sys2Proof.Machine
end

