-- ==== Sys2Proof/Laws/Masking.lean ====
section
/-! SUPPORT. The masks, the masked S-Box and the row masks (R201 to R210). -/

namespace Sys2Proof.Machine

/-- The masked S-Box expects the mask m′ on its input and leaves the mask m on its output (R202). -/
theorem maskedInvSbox_lookup (m mp x : Byte) : maskedLookup (maskedInvSbox m mp) (x ^^^ mp) = invSbox x ^^^ m := by
  have h : BitVec.ofNat 8 (x ^^^ mp).toNat ^^^ mp = x := by
    rw [BitVec.ofNat_toNat, BitVec.setWidth_eq, BitVec.xor_assoc, BitVec.xor_self, BitVec.xor_zero]
  simp only [maskedLookup, maskedInvSbox, Vector.getElem_ofFn, h]

/-- The masks of MASK_INIT under DPA: one draw for all (R201, R204). -/
theorem drawMasks_dpa (x : Byte) :
    drawMasks true x =
      (masksFrom (prngStep x) (prngStep x) #v[prngStep x, prngStep x, prngStep x, prngStep x], prngStep x) := rfl

/-- A column of equal masks is its own inverse MixColumn image (R158, R204). -/
theorem ffMul_imcm_row (m : Byte) (r : Fin 4) :
    ffMul (imcmTable.get r 0) m ^^^ ffMul (imcmTable.get r 1) m ^^^ ffMul (imcmTable.get r 2) m
      ^^^ ffMul (imcmTable.get r 3) m = ffMul 1 m := by
  rw [← ffMul_xor_left, ← ffMul_xor_left, ← ffMul_xor_left, imcm_row_xor]

/-- A masked round key, byte by byte (R205). -/
theorem maskRoundKey_get (m : Masks) (k : Block) (j : Fin 16) :
    (maskRoundKey m k)[j] = k[j] ^^^ m.mcmOut[flatRow j] ^^^ m.sbmIn := by
  simp [maskRoundKey]

/-- The masked table, key by key (R205). -/
theorem maskedTable_get (m : Masks) (rk : Vector Block Config.nRoundKeys) (i : Fin Config.nRoundKeys) :
    (maskedTable m rk)[i] = maskRoundKey m rk[i] := by
  simp [maskedTable]

@[simp] theorem xorRows_get (mask : Fin 4 → Byte) (m : StateMatrix) (r c : Fin 4) :
    (xorRows mask m).get r c = m.get r c ^^^ mask r := by
  simp [xorRows]

/-- Masking a state twice with the same masks restores it (R206). -/
theorem xorRows_xorRows (mask : Fin 4 → Byte) (m : StateMatrix) : xorRows mask (xorRows mask m) = m := by
  apply StateMatrix.ext_get
  intro r c
  simp

/-- Masks of 0 change no byte. -/
theorem xorRows_zero (mask : Fin 4 → Byte) (m : StateMatrix) (h : ∀ r, mask r = 0) : xorRows mask m = m := by
  apply StateMatrix.ext_get
  intro r c
  simp [h r]

/-- MASK_INIT when its seeding answers: the masks drawn from the seed. -/
theorem maskInit_of_answers {s : State} (h : s.EntropyAnswers 8) :
    maskInit s = .done ((s.setEnv (s.env.afterConversions 8)).setPrng s.seed).drawnMasks := seeding_of_answers h _

/-- MASK_INIT either draws masks from some seed, or raises EntropyUnavailable. -/
theorem maskInit_cases (s : State) :
    ∃ n ≤ 8, (∃ x, maskInit s = .done ((s.setEnv (s.env.afterConversions n)).setPrng x).drawnMasks) ∨
      maskInit s = .raised .entropyUnavailable (s.env.afterConversions n) := seeding_cases s _

/-- What the drawing writes: PRNG, the masks and MSBOX, and the two marks. -/
theorem drawnMasks_frame (s : State) :
    s.drawnMasks = { s with
      prng := s.drawnMasks.prng, masks := s.drawnMasks.masks, msbox := s.drawnMasks.msbox
      written := { s.written with masks := true, msbox := true } } := rfl

theorem drawMasks_mcmIn (dpa : Bool) (x : Byte) :
    (drawMasks dpa x).1.mcmIn = invMixColumn (drawMasks dpa x).1.mcmOut := by
  cases dpa <;> rfl

theorem drawnMasks_msbox (s : State) :
    s.drawnMasks.msbox = maskedInvSbox s.drawnMasks.masks.sbmIn s.drawnMasks.masks.sbmOut := rfl

theorem drawnMasks_mcmIn (s : State) : s.drawnMasks.masks.mcmIn = invMixColumn s.drawnMasks.masks.mcmOut :=
  drawMasks_mcmIn s.dpa s.prng

end Sys2Proof.Machine
end

