-- ==== Sys2Proof/Laws/AesCore.lean ====
section
/-! SUPPORT. The layers, element by element, and what a layer command comes to (R260 to R275). -/

namespace Sys2Proof.Machine

/-! ### The layers -/

@[simp] theorem xorRoundKey_get (k : Block) (m : StateMatrix) (r c : Fin 4) :
    (xorRoundKey k m).get r c = m.get r c ^^^ k[flatIndex r c] := by
  simp [xorRoundKey]

/-- INV_SHIFT_ROWS's layer, element by element (R267). -/
theorem shiftRowsRight_get (m : StateMatrix) (r c : Fin 4) : (shiftRowsRight m).get r c = m.get r (c - r) := by
  have h := rotrRow_get m[r] ⟨r.val, by omega⟩ c
  have hr : Fin.ofNat 4 r.val = r := by simp
  simp only [hr] at h
  simpa [shiftRowsRight, StateMatrix.get] using h

theorem unmixColumns_get (m : StateMatrix) (r c : Fin 4) :
    (unmixColumns m).get r c = ffMul (imcmTable.get r 0) (m.get 0 c) ^^^ ffMul (imcmTable.get r 1) (m.get 1 c)
      ^^^ ffMul (imcmTable.get r 2) (m.get 2 c) ^^^ ffMul (imcmTable.get r 3) (m.get 3 c) := by
  rw [unmixColumns, StateMatrix.get_ofFn, invMixColumn_get]
  rfl

@[simp] theorem mapBytes_get (f : Byte → Byte) (m : StateMatrix) (r c : Fin 4) :
    (mapBytes f m).get r c = f (m.get r c) := by
  simp [mapBytes]

/-- One substitution changes the byte at its own flat index only (R268). -/
theorem substituteAt_get (sub : Byte → Byte) (m : StateMatrix) (k : Fin 16) (r c : Fin 4) :
    (substituteAt sub m k).get r c = if flatIndex r c = k then sub (m.get r c) else m.get r c := by
  have hk : flatIndex r c = k ↔ flatRow k = r ∧ flatCol k = c :=
    ⟨fun h => by subst h; simp, fun ⟨h1, h2⟩ => by subst h1; subst h2; simp⟩
  rw [substituteAt, StateMatrix.get_put]
  by_cases h : flatIndex r c = k
  · obtain ⟨h1, h2⟩ := hk.1 h
    subst h1; subst h2; simp
  · rw [if_neg h, if_neg (fun hc => h (hk.2 hc))]

/-- A byte is substituted exactly when its index is visited, if no index is visited twice (R268, R269). -/
theorem substituteBytes_get (sub : Byte → Byte) {order : List (Fin 16)} (h : order.Nodup) (m : StateMatrix) (r c : Fin 4) :
    (substituteBytes sub order m).get r c = if flatIndex r c ∈ order then sub (m.get r c) else m.get r c := by
  induction order generalizing m with
  | nil => simp [substituteBytes]
  | cons k rest ih =>
    obtain ⟨hk, hrest⟩ := List.nodup_cons.1 h
    have hstep : substituteBytes sub (k :: rest) m = substituteBytes sub rest (substituteAt sub m k) := rfl
    rw [hstep, ih hrest, substituteAt_get]
    by_cases he : flatIndex r c = k
    · have hn : flatIndex r c ∉ rest := he ▸ hk
      simp [he, hk]
    · simp [he]

/-! ### Reading the round key's and the substitution's elements -/

theorem readable_setCounters (s : State) (d : Nat) (n : Word16) (e : Element) :
    (s.setCounters d n).readable e = s.readable e := by
  cases e <;> rfl

/-- The shape of the four layer commands: a prefix, a guarded read, and STATE written. -/
theorem layer_of_ready {s : State} {linear : Bool} (hp : s.PrefixReady linear) {es : List Element}
    (hr : ∀ e ∈ es, s.readable e = true) (f : State → StateMatrix) :
    ((if s.prefixActive linear then dummyOperation s else .done s).andThen fun t =>
      reading es t (.done (t.setState (f t))))
      = .done ((s.setCounters (s.dcntAfterPrefix linear) (s.nopCountAfterPrefix linear)).setState
          (f (s.setCounters (s.dcntAfterPrefix linear) (s.nopCountAfterPrefix linear)))) := by
  rw [dummyPrefix_of_ready hp, andThen_done, reading_of_readable]
  intro e he
  rw [readable_setCounters]
  exact hr e he

/-! ### The micro-program -/

@[simp] theorem performAll_nil (s : State) : performAll [] s = .done s := rfl

theorem performAll_cons (op : MicroOp) (rest : List MicroOp) (s : State) :
    performAll (op :: rest) s = (perform op s).andThen (performAll rest) := rfl

/-- A micro-program in two parts. -/
theorem performAll_append (p q : List MicroOp) (s : State) :
    performAll (p ++ q) s = (performAll p s).andThen (performAll q) := by
  induction p generalizing s with
  | nil => rfl
  | cons op p ih =>
    simp only [List.cons_append, performAll_cons]
    cases perform op s <;> simp [ih]

/-- A property that every line keeps is kept by the whole micro-program. -/
theorem performAll_keeps {P : State → Prop} (hop : ∀ op s t, P s → perform op s = .done t → P t) {ops : List MicroOp}
    {s t : State} (hs : P s) (h : performAll ops s = .done t) : P t := by
  induction ops generalizing s with
  | nil => cases h; exact hs
  | cons op rest ih =>
    obtain ⟨u, hu, hrest⟩ := andThen_eq_done_iff.1 (performAll_cons op rest s ▸ h)
    exact ih (hop op s u hs hu) hrest

end Sys2Proof.Machine
end

