-- ==== Sys2Proof/Laws/Exec.lean ====
section
/-! SUPPORT. What every command has in common: it is the settling of an effect on the state it starts from (R11, R380). -/

namespace Sys2Proof.Machine

/-- Every command is all-or-nothing: some effect, settled on the state before it. -/
theorem exec_settles (i : Instr) (s : State) : ∃ r, exec i s = settle s r := by
  cases i <;> simp only [exec,
    execNop, execClrstat, execRdstat, execWkey, execWdata, execRdata, execWcfg, execRcfg, execFfmul, execParity,
    execRotrRow, execPrngSeed, execPrngNext, execMaj3, execKeyExpand, execLoadState, execStoreState,
    execAddRoundKey, execInvShiftRows, execInvByteSub, execInvMixCols, execDecrypt, execMaskInit,
    execMaskSubkeys, execInvMaskState, execInvRemaskState, execInvUnmaskState, execRdMsbox, execHidingInit,
    execShuffleSboxAccess, execDummyOp, execTxByte, execRxByte] <;>
    exact ⟨_, rfl⟩

/-- No command is refused. -/
theorem exec_ne_refused (i : Instr) (s : State) (r : Refusal) : exec i s ≠ .refused r := by
  obtain ⟨e, he⟩ := exec_settles i s
  rw [he]
  cases e <;> simp

end Sys2Proof.Machine
end

