-- ==== Sys2Proof/Laws/Agents.lean ====
section
/-! SUPPORT. One law for each way a step can go (R110, R389, R430). -/

namespace Sys2Proof.Machine

/-! ### The host -/

/-- While FG ≠ IDLE the host has no step (R110). -/
theorem hostStep_busy {s : State} (h : s.xcvr.fg ≠ .idle) : hostStep s = .next s := by simp [hostStep, h]

/-- The idle host issues its oldest word (R110). -/
theorem hostStep_issues {s : State} {item : HostItem} {rest : List HostItem} (h : s.xcvr.fg = .idle)
    (hc : s.env.cmds = item :: rest) :
    hostStep s = issue (item.toWord s.res) (s.setEnv { s.env with cmds := rest }) := by
  simp only [hostStep, h, if_true, hc]

theorem issue_command {w : CmdWord} {i : Instr} (h : decode w = .ok i) (s : State) : issue w s = exec i s := by
  simp only [issue, h]

theorem issue_illegal {w : CmdWord} {e : DecodeError} (h : decode w = .error e) (s : State) :
    issue w s = .next (s.raise .illegalCommand) := by
  simp only [issue, h]

/-- An issued word is a command performed or IllegalCommand raised, nothing else. -/
theorem issue_cases (w : CmdWord) (s : State) :
    (∃ i, decode w = .ok i ∧ issue w s = exec i s) ∨ issue w s = .next (s.raise .illegalCommand) := by
  cases h : decode w with
  | ok i => exact .inl ⟨i, rfl, issue_command h s⟩
  | error e => exact .inr (issue_illegal h s)

/-- Whatever the host does: it issues a word, begins its loop again, or has no step. -/
theorem hostStep_cases (s : State) :
    (∃ w e, hostStep s = issue w (s.setEnv e) ∧ e.agenda = s.env.agenda ∧ s.xcvr.fg = .idle) ∨
      (∃ e, hostStep s = .next (s.setEnv e) ∧ e.agenda = s.env.agenda) := by
  by_cases h : s.xcvr.fg = .idle
  · cases hc : s.env.cmds with
    | nil => exact .inr ⟨{ s.env with cmds := s.env.hostLoop }, by simp only [hostStep, h, if_true, hc], rfl⟩
    | cons item rest => exact .inl ⟨_, _, hostStep_issues h hc, rfl, h⟩
  · exact .inr ⟨s.env, hostStep_busy h, rfl⟩

/-! ### Which agent -/

/-- The agenda's oldest agent moves. -/
theorem step_of_agenda {s : State} {a : Agent} {later : List Agent} (h : s.env.agenda = a :: later) :
    step s = move a (s.setEnv { s.env with agenda := later }) := by
  simp only [step, turn, h]

/-- With an empty agenda the premise PROMPT chooses (R430). -/
theorem step_of_promptTurn {s : State} (h : s.PromptTurn) : step s = promptStep s := by
  simp only [step, turn, h.1, h.2, if_true]

/-- Every step is one agent's move on the state with its environment changed, or a prompt step. -/
theorem step_cases (s : State) :
    (∃ a e, step s = move a (s.setEnv e)) ∨ (s.PromptTurn ∧ step s = promptStep s) := by
  cases h : s.env.agenda with
  | cons a later => exact .inl ⟨a, _, step_of_agenda h⟩
  | nil =>
    by_cases hp : s.params.prompt = true
    · exact .inr ⟨⟨hp, h⟩, step_of_promptTurn ⟨hp, h⟩⟩
    · exact .inl ⟨_, _, by simp only [step, turn, h, hp]; rfl⟩

/-- A prompt step is the terminal's due write, the move of the first enabled agent, or a clock unit (R430). -/
theorem promptStep_cases (s : State) :
    (∃ level e, promptStep s = .next (terminalStep level (s.setEnv e)) ∧ e.agenda = s.env.agenda) ∨
      (s.xcvr.foregroundEnabled = true ∧ promptStep s = .next (foregroundAct s)) ∨
      (s.xcvr.foregroundEnabled = false ∧
        ((s.xcvr.edgeSeen = true ∧ promptStep s = .next (s.setXcvr (pinChangeAct s.params s.xcvr))) ∨
          (edgePending s.params s.xcvr = true ∧ promptStep s = .next (pendingEdgeStep s)) ∨
          (s.hostEnabled = true ∧ promptStep s = hostStep s) ∨ promptStep s = .next (clockUnit s))) := by
  cases hd : s.env.dueWrite with
  | some w => exact .inl ⟨w.1, { s.env with termScript := w.2 }, by simp only [promptStep, hd], rfl⟩
  | none =>
    right
    cases hf : s.xcvr.foregroundEnabled with
    | true => exact .inl ⟨rfl, by simp only [promptStep, hd, hf, if_true, foregroundStep]⟩
    | false =>
      refine .inr ⟨rfl, ?_⟩
      cases he : s.xcvr.edgeSeen with
      | true => exact .inl ⟨rfl, by simp [promptStep, hd, hf, he, pinChangeStep]⟩
      | false =>
        cases hp : edgePending s.params s.xcvr with
        | true => exact .inr (.inl ⟨rfl, by simp [promptStep, hd, hf, he, hp]⟩)
        | false =>
          cases hh : s.hostEnabled with
          | true => exact .inr (.inr (.inl ⟨rfl, by simp [promptStep, hd, hf, he, hp, hh]⟩))
          | false => exact .inr (.inr (.inr (by simp [promptStep, hd, hf, he, hp, hh])))

/-! ### The timer -/

/-- Without a match a tick counts (R308). -/
theorem timerAct_counts {s : State} (h : s.xcvr.tcnt + 1 ≠ s.xcvr.ocr) :
    timerAct s = s.setXcvr { s.xcvr with tcnt := s.xcvr.tcnt + 1 } := if_neg h

/-- At a match the counter clears and the handler runs in the same step (R308). -/
theorem timerAct_matches {s : State} (h : s.xcvr.tcnt + 1 = s.xcvr.ocr) :
    timerAct s = timerHandler (s.setXcvr { s.xcvr with tcnt := 0 }) := if_pos h

/-- Three samples of a line without glitches are its level (R161, R305). -/
theorem maj3_same (v : Bool) : maj3 v v v = v := by cases v <;> rfl

/-! ### No step is refused -/

theorem hostStep_ne_refused (s : State) (r : Refusal) : hostStep s ≠ .refused r := by
  rcases hostStep_cases s with ⟨w, e, h, -⟩ | ⟨e, h, -⟩
  · rcases issue_cases w (s.setEnv e) with ⟨i, -, hi⟩ | hi
    · rw [h, hi]; exact exec_ne_refused i _ r
    · rw [h, hi]; simp
  · rw [h]; simp

theorem step_ne_refused (s : State) (r : Refusal) : step s ≠ .refused r := by
  rcases step_cases s with ⟨a, e, h⟩ | ⟨-, h⟩
  · rw [h]
    cases a
    case host => exact hostStep_ne_refused _ r
    all_goals simp [move]
  · rw [h]
    rcases promptStep_cases s with ⟨_, _, h, -⟩ | ⟨-, h⟩ | ⟨-, ⟨-, h⟩ | ⟨-, h⟩ | ⟨-, h⟩ | h⟩
    all_goals rw [h]
    case inr.inr.inr.inr.inr.inl => exact hostStep_ne_refused s r
    all_goals simp

end Sys2Proof.Machine
end

