-- ==== Sys2Proof/Laws/Decode.lean ====
section
/-! SUPPORT. The fields of a word that the encoder made (R101). -/

namespace Sys2Proof

/-- Bits of a byte above bit 7 are 0. -/
theorem byte_getLsbD_high (a : Byte) {i : Nat} (h : 8 ≤ i) : a.getLsbD i = false := BitVec.getLsbD_of_ge a i h

@[simp] theorem fieldOpc_commandWord (opc a b : Byte) : fieldOpc (commandWord opc a b) = opc := by
  apply BitVec.eq_of_getLsbD_eq
  intro i hi
  have ha := byte_getLsbD_high a (i := 16 + i - 8) (by omega)
  have hb := byte_getLsbD_high b (i := 16 + i) (by omega)
  have h1 : 16 + i < 24 := by omega
  simp [fieldOpc, commandWord, hi, ha, hb, h1]

@[simp] theorem fieldA_commandWord (opc a b : Byte) : fieldA (commandWord opc a b) = a := by
  apply BitVec.eq_of_getLsbD_eq
  intro i hi
  have h1 : 8 + i < 16 := by omega
  have h2 : 8 + i < 24 := by omega
  simp [fieldA, commandWord, hi, h1, h2]

@[simp] theorem fieldB_commandWord (opc a b : Byte) : fieldB (commandWord opc a b) = b := by
  apply BitVec.eq_of_getLsbD_eq
  intro i hi
  have h1 : i < 16 := by omega
  have h2 : i < 24 := by omega
  simp [fieldB, commandWord, hi, h1, h2]

end Sys2Proof
end

