-- ==== Sys2Proof/Laws/PerInstr.lean ====
section
/-! SUPPORT. Decoding the word of a command gives the command back (R105, R108), one lemma per command. -/

namespace Sys2Proof.Laws.EncodeDecode

/-- The decoder reads the command from the word the encoder writes for it. -/
def Statement (i : Instr) : Prop := decode (encode i) = .ok i

theorem nop : Statement .nop := by simp [Statement, encode, decode]

theorem clrstat : Statement .clrstat := by simp [Statement, encode, decode]

theorem rdstat : Statement .rdstat := by simp [Statement, encode, decode]

theorem wkey (a b : Byte) : Statement (.wkey a b) := by simp [Statement, encode, decode]

theorem wdata (a b : Byte) : Statement (.wdata a b) := by simp [Statement, encode, decode]

theorem rdata (a : Byte) : Statement (.rdata a) := by simp [Statement, encode, decode]

theorem wcfg (b : Byte) : Statement (.wcfg b) := by simp [Statement, encode, decode]

theorem rcfg : Statement .rcfg := by simp [Statement, encode, decode]

theorem ffmul (a b : Byte) : Statement (.ffmul a b) := by simp [Statement, encode, decode]

theorem parity (a : Byte) : Statement (.parity a) := by simp [Statement, encode, decode]

theorem rotrRow (a b : Byte) : Statement (.rotrRow a b) := by simp [Statement, encode, decode]

theorem prngSeed : Statement .prngSeed := by simp [Statement, encode, decode]

theorem prngNext : Statement .prngNext := by simp [Statement, encode, decode]

theorem maj3 (a : BitVec 3) : Statement (.maj3 a) := by
  have h : (a.setWidth 8).extractLsb' 0 3 = a := by
    apply BitVec.eq_of_getLsbD_eq
    intro i hi
    simp [hi, show i < 8 by omega]
  simp [Statement, encode, decode, h]

theorem keyExpand : Statement .keyExpand := by simp [Statement, encode, decode]

theorem loadState : Statement .loadState := by simp [Statement, encode, decode]

theorem storeState : Statement .storeState := by simp [Statement, encode, decode]

theorem addRoundKey (a : Byte) : Statement (.addRoundKey a) := by simp [Statement, encode, decode]

theorem invShiftRows : Statement .invShiftRows := by simp [Statement, encode, decode]

theorem invByteSub : Statement .invByteSub := by simp [Statement, encode, decode]

theorem invMixCols : Statement .invMixCols := by simp [Statement, encode, decode]

theorem decrypt : Statement .decrypt := by simp [Statement, encode, decode]

theorem maskInit : Statement .maskInit := by simp [Statement, encode, decode]

theorem maskSubkeys : Statement .maskSubkeys := by simp [Statement, encode, decode]

theorem invMaskState : Statement .invMaskState := by simp [Statement, encode, decode]

theorem invRemaskState : Statement .invRemaskState := by simp [Statement, encode, decode]

theorem invUnmaskState : Statement .invUnmaskState := by simp [Statement, encode, decode]

theorem rdMsbox (a : Byte) : Statement (.rdMsbox a) := by simp [Statement, encode, decode]

theorem hidingInit : Statement .hidingInit := by simp [Statement, encode, decode]

theorem shuffleSboxAccess : Statement .shuffleSboxAccess := by simp [Statement, encode, decode]

theorem dummyOp : Statement .dummyOp := by simp [Statement, encode, decode]

theorem txByte (a : Byte) : Statement (.txByte a) := by simp [Statement, encode, decode]

theorem rxByte : Statement .rxByte := by simp [Statement, encode, decode]

end Sys2Proof.Laws.EncodeDecode
end

