-- ==== Sys2Proof/Tests/Slice0.lean ====
section
/-! SUPPORT. The model's own tests: words written out from the encoding, single steps against the vectors of
95_test_vectors.md and the examples of the rules, and a witness for the hypotheses of every statement. -/

namespace Sys2Proof.Tests

open Sys2Proof.Machine

/-! ### Helpers -/

/-- A field of the next state. -/
def after {α : Type} (o : Host.Outcome State Fault Refusal) (f : State → α) : Option α :=
  match o with
  | .next s => some (f s)
  | .fault _ | .refused _ => none

/-- The fault of a stop. -/
def faultOf : Host.Outcome State Fault Refusal → Option Fault
  | .fault f => some f
  | .next _ | .refused _ => none

/-- The target with MASTER_KEY 0. -/
def params : Params := { Config.target with masterKey := Vector.replicate 16 0 }

/-- After reset, PRNG 0x55, the line released. -/
def base : State := State.resetWith params 0x55 true

/-- A block as STATE. -/
def withState (b : Block) (s : State) : State := s.setState (matrixOfBlock b)

/-- STATE in flat order. -/
def flat (s : State) : List Byte := (blockOfMatrix s.state).toList

/-- The oracle's coming answers. -/
def withAnswers (bits : List Bool) (s : State) : State :=
  s.setEnv { s.env with adcQueue := bits.map fun b => { bit := b, unavailable := false } }

/-- Two answers, then UNAVAILABLE, where the oracle can fail (V-PRNG-3). -/
def failing (s : State) : State :=
  { s with
    params := { s.params with entropyCanFail := true }
    env := { s.env with
      adcQueue := [⟨true, false⟩, ⟨true, false⟩, ⟨false, true⟩, ⟨true, false⟩] } }

/-- With strictReads on, CFG all ones and nothing written. -/
def strict : State := { base with cfg := 0x0F, params := { params with strictReads := true } }

/-- The key, ciphertext and plaintext of S-1a (NIST SP 800-38A F.1.2 block 1). -/
def nistKey : Block := #v[0x2b, 0x7e, 0x15, 0x16, 0x28, 0xae, 0xd2, 0xa6, 0xab, 0xf7, 0x15, 0x88, 0x09, 0xcf, 0x4f, 0x3c]

def nistCipher : Block := #v[0x3a, 0xd7, 0x7b, 0xb4, 0x0d, 0x7a, 0x36, 0x60, 0xa8, 0x9e, 0xca, 0xf3, 0x24, 0x66, 0xef, 0x97]

def nistPlain : List Byte := [0x6b, 0xc1, 0xbe, 0xe2, 0x2e, 0x40, 0x9f, 0x96, 0xe9, 0x3d, 0x7e, 0x11, 0x73, 0x93, 0x17, 0x2a]

/-- S-1a loaded, under configuration `cfg`. -/
def nist (cfg : Byte) : State := ((base.setCfg cfg).setData nistCipher |> fun s => { s with key := nistKey })

/-- The masks of V-MASK-1. -/
def masks1 : Masks :=
  { sbmIn := 0x04, sbmOut := 0x24, mcmIn := #v[0x08, 0xd6, 0x01, 0x7d], mcmOut := #v[0x0d, 0xc1, 0x5b, 0x35] }

/-! ### Ill-formed commands are refused by the check -/

theorem test_illFormed_wkey : Instr.wellFormed (.wkey 16 0) = false := by decide
theorem test_illFormed_wdata : Instr.wellFormed (.wdata 255 0) = false := by decide
theorem test_illFormed_rdata : Instr.wellFormed (.rdata 16) = false := by decide
theorem test_illFormed_rotrRow_row : Instr.wellFormed (.rotrRow 4 0) = false := by decide
theorem test_illFormed_rotrRow_count : Instr.wellFormed (.rotrRow 0 5) = false := by decide
theorem test_illFormed_addRoundKey : Instr.wellFormed (.addRoundKey 11) = false := by decide
theorem test_wellFormed_bounds :
    [Instr.wkey 15 0, .wdata 15 0, .rdata 15, .rotrRow 3 4, .addRoundKey 10, .rdMsbox 255].all Instr.wellFormed = true := by
  decide

/-! ### Decoding (R105; V-ENC-1): a word of every row, unused fields not 0 -/

theorem test_decode_nop : decodeTableWord 24 0x00FFFF = some .nop := by decide
theorem test_decode_clrstat : decodeTableWord 24 0x010203 = some .clrstat := by decide
theorem test_decode_rdstat : decodeTableWord 24 0x02FF00 = some .rdstat := by decide
theorem test_decode_wkey : decodeTableWord 24 0x100316 = some (.wkey 3 0x16) := by decide
theorem test_decode_wdata : decodeTableWord 24 0x110F97 = some (.wdata 15 0x97) := by decide
theorem test_decode_rdata : decodeTableWord 24 0x1205AA = some (.rdata 5) := by decide
theorem test_decode_wcfg : decodeTableWord 24 0x13FF0F = some (.wcfg 0x0F) := by decide
theorem test_decode_rcfg : decodeTableWord 24 0x140001 = some .rcfg := by decide
theorem test_decode_ffmul : decodeTableWord 24 0x205783 = some (.ffmul 0x57 0x83) := by decide
theorem test_decode_parity : decodeTableWord 24 0x213BFF = some (.parity 0x3B) := by decide
theorem test_decode_rotrRow : decodeTableWord 24 0x220304 = some (.rotrRow 3 4) := by decide
theorem test_decode_prngSeed : decodeTableWord 24 0x231111 = some .prngSeed := by decide
theorem test_decode_prngNext : decodeTableWord 24 0x2400FF = some .prngNext := by decide
theorem test_decode_maj3 : decodeTableWord 24 0x25FDFF = some (.maj3 5) := by decide
theorem test_decode_keyExpand : decodeTableWord 24 0x300100 = some .keyExpand := by decide
theorem test_decode_loadState : decodeTableWord 24 0x31FFFF = some .loadState := by decide
theorem test_decode_storeState : decodeTableWord 24 0x320101 = some .storeState := by decide
theorem test_decode_addRoundKey : decodeTableWord 24 0x330AFF = some (.addRoundKey 10) := by decide
theorem test_decode_invShiftRows : decodeTableWord 24 0x340102 = some .invShiftRows := by decide
theorem test_decode_invByteSub : decodeTableWord 24 0x350010 = some .invByteSub := by decide
theorem test_decode_invMixCols : decodeTableWord 24 0x361000 = some .invMixCols := by decide
theorem test_decode_decrypt : decodeTableWord 24 0x3F1234 = some .decrypt := by decide
theorem test_decode_maskInit : decodeTableWord 24 0x40FF01 = some .maskInit := by decide
theorem test_decode_maskSubkeys : decodeTableWord 24 0x4101FF = some .maskSubkeys := by decide
theorem test_decode_invMaskState : decodeTableWord 24 0x420001 = some .invMaskState := by decide
theorem test_decode_invRemaskState : decodeTableWord 24 0x430100 = some .invRemaskState := by decide
theorem test_decode_invUnmaskState : decodeTableWord 24 0x440101 = some .invUnmaskState := by decide
theorem test_decode_rdMsbox : decodeTableWord 24 0x45FF01 = some (.rdMsbox 255) := by decide
theorem test_decode_hidingInit : decodeTableWord 24 0x50FFFF = some .hidingInit := by decide
theorem test_decode_shuffleSboxAccess : decodeTableWord 24 0x510001 = some .shuffleSboxAccess := by decide
theorem test_decode_dummyOp : decodeTableWord 24 0x520100 = some .dummyOp := by decide
theorem test_decode_txByte : decodeTableWord 24 0x603BFF = some (.txByte 0x3B) := by decide
theorem test_decode_rxByte : decodeTableWord 24 0x61FFFF = some .rxByte := by decide

/-- The gaps of the opcode map (R106). -/
theorem test_decode_reserved :
    [0x03, 0x0F, 0x15, 0x1F, 0x26, 0x2F, 0x37, 0x3E, 0x46, 0x4F, 0x53, 0x5F, 0x62, 0xFF].all
      (fun opc => (decodeTableWord 24 (opc * 65536)).isNone) = true := by
  decide

/-- R108's examples. -/
theorem test_assemble :
    [assemble "WKEY" [3, 0x16], assemble "ADD_ROUND_KEY" [10], assemble "TX_BYTE" [0x3B], assemble "MAJ3" [5],
      assemble "WCFG" [0xF0], assemble "NOP" [1]]
      = [some 0x100316, some 0x330A00, some 0x603B00, some 0x250500, some 0x1300F0, none] := by
  decide

/-! ### Host access and status (V-HOST-1 and the rules' examples) -/

theorem test_nop : step (base.withFetchWord 24 0x00FFFF) = .next base := rfl

theorem test_clrstat : after (exec .clrstat { base with status := 0x05 }) (·.status) = some 0x00 := by decide

theorem test_illegal_word :
    after (step (base.withFetchWord 24 0x77FF10)) (fun t => (t.status, t.res)) = some (0x01, 0x00) := by decide

theorem test_rdstat : after (exec .rdstat { base with status := 0x03 }) (fun t => (t.res, t.status)) = some (0x03, 0x03) := by
  decide

theorem test_wcfg : after (exec (.wcfg 0xF5) base) (fun t => (t.cfg, t.res)) = some (0x05, 0x00) := by decide

theorem test_rcfg : after (exec .rcfg { base with cfg := 0x05 }) (·.res) = some 0x05 := by decide

theorem test_wkey : after (exec (.wkey 0 0x2B) base) (fun t => t.key.toList.take 2) = some [0x2B, 0x00] := by decide

theorem test_wkey_range :
    after (exec (.wkey 16 0) { base with status := 0x01 }) (fun t => (t.status, t.key.toList)) = some (0x03, base.key.toList) := by
  decide

theorem test_wdata : after (exec (.wdata 15 0x97) base) (fun t => t.data.toList.drop 14) = some [0x00, 0x97] := by decide

theorem test_wdata_range : after (exec (.wdata 16 1) base) (fun t => (t.status, t.written.data[15])) = some (0x02, false) := by
  decide

theorem test_rdata : after (exec (.rdata 1) (nist 0)) (·.res) = some 0xD7 := by decide

theorem test_rdata_strict : faultOf (exec (.rdata 3) strict) = some (.unwrittenRead (.data 3)) := by decide

/-! ### Arithmetic units (V-GF-1 to V-GF-5) -/

theorem test_ffmul : after (exec (.ffmul 0x57 0x83) base) (·.res) = some 0xC1 := by decide

theorem test_ffmul_reduces : after (exec (.ffmul 0xFF 0xFF) base) (·.res) = some 0x13 := by decide

theorem test_parity : after (exec (.parity 0x3B) base) (·.res) = some 0x01 := by decide

theorem test_parity_even : after (exec (.parity 0xC0) base) (·.res) = some 0x00 := by decide

theorem test_maj3 : after (exec (.maj3 6) base) (·.res) = some 0x01 := by decide

theorem test_maj3_low : after (exec (.maj3 4) base) (·.res) = some 0x00 := by decide

theorem test_rotrRow :
    after (exec (.rotrRow 1 1) (withState #v[1, 0x05, 2, 3, 1, 0xc6, 2, 3, 1, 0xe9, 2, 3, 1, 0xc4, 2, 3] base)) flat
      = some [1, 0xc4, 2, 3, 1, 0x05, 2, 3, 1, 0xc6, 2, 3, 1, 0xe9, 2, 3] := by
  decide +kernel

theorem test_rotrRow_range : after (exec (.rotrRow 0 5) base) (·.status) = some 0x02 := by decide

theorem test_tables :
    ([0x00, 0x01, 0x16, 0x52, 0x53, 0x63, 0x7c, 0xff] : List Byte).map (fun x => (sbox x, invSbox x))
      = [(0x63, 0x52), (0x7c, 0x09), (0x47, 0xff), (0x00, 0x48), (0xed, 0x50), (0xfb, 0x00), (0x10, 0x01), (0x16, 0x7d)] := by
  decide

/-! ### PRNG (V-PRNG-1 to V-PRNG-3) -/

theorem test_prngSeed :
    after (exec .prngSeed (withAnswers [true, false, true, false, false, true, false, true] base)) (fun t => (t.prng, t.env.conversions)) = some (0xA5, 9) := by
  decide

theorem test_prngSeed_unavailable :
    after (exec .prngSeed (failing base)) (fun t => (t.status, t.prng, t.env.adcQueue.length)) = some (0x04, 0x55, 1) := by
  decide

theorem test_prngNext : after (exec .prngNext (base.setPrng 0xA5)) (fun t => (t.prng, t.res)) = some (0x04, 0x04) := by decide

/-! ### Masking (V-MASK-1, V-MASK-2) -/

theorem test_maskInit :
    after (exec .maskInit (withAnswers [true, false, true, false, false, true, false, true] base))
      (fun t => (decide (t.masks = masks1), t.prng, t.msbox[0x24], t.msbox[0xDB], t.msbox[0xFF]))
      = some (true, 0x35, 0x56, 0x79, 0x9b) := by
  decide +kernel

theorem test_maskInit_dpa :
    after (exec .maskInit (withAnswers [true, false, true, false, false, true, false, true] (base.setCfg 0x08)))
      (fun t => (t.masks.sbmOut, t.masks.mcmIn.toList, t.prng, t.msbox[0x04])) = some (0x04, [4, 4, 4, 4], 0x04, 0x56) := by
  decide +kernel

theorem test_maskSubkeys :
    after (exec .maskSubkeys ((base.setMasks masks1).setRk (keyExpand nistKey))) (fun t => (t.mrk[10]).toList)
      = some [0xd9, 0xd1, 0xa6, 0x99, 0xc0, 0x2b, 0x7a, 0xb8, 0xe8, 0xfa, 0x53, 0xf9, 0xbf, 0xa6, 0x53, 0x97] := by
  decide +kernel

theorem test_invMaskState :
    after (exec .invMaskState (withState nistCipher (base.setMasks masks1))) flat
      = some [0x17, 0x36, 0x00, 0xa1, 0x20, 0x9b, 0x4d, 0x75, 0x85, 0x7f, 0xb1, 0xe6, 0x09, 0x87, 0x94, 0x82] := by
  decide +kernel

theorem test_invRemaskState :
    after (exec .invRemaskState
        (withState #v[0x8b, 0xe5, 0xf1, 0xd2, 0xf7, 0xc3, 0xa7, 0x90, 0xc9, 0x47, 0xb5, 0x74, 0x7f, 0xd8, 0x80, 0x23] (base.setMasks masks1))) flat
      = some [0xa7, 0x17, 0xd4, 0x8b, 0xdb, 0x31, 0x82, 0xc9, 0xe5, 0xb5, 0x90, 0x2d, 0x53, 0x2a, 0xa5, 0x7a] := by
  decide +kernel

theorem test_invUnmaskState :
    after (exec .invUnmaskState
        (withState #v[0x66, 0x00, 0xe5, 0xd7, 0x23, 0x81, 0xc4, 0xa3, 0xe4, 0xfc, 0x25, 0x24, 0x7e, 0x52, 0x4c, 0x1f] (base.setMasks masks1))) flat
      = some nistPlain := by
  decide +kernel

theorem test_rdMsbox :
    after (exec (.rdMsbox 0x24) (base.setMsbox (maskedInvSbox 0x04 0x24))) (·.res) = some 0x56 := by decide +kernel

/-! ### Hiding (V-HIDE-1 to V-HIDE-3) -/

theorem test_hidingInit :
    after (exec .hidingInit (withAnswers [false, false, true, true, true, true, false, false] (base.setCfg 0x04)))
      (fun t => (t.sched.toList.map BitVec.toNat, t.prng))
      = some ([2, 1, 1, 2, 14, 0, 1, 4, 3, 0, 5, 3, 0, 0, 1, 0, 1, 2, 0, 0, 2, 0, 12, 5, 3, 0, 0, 0, 2, 0, 0, 9, 1, 4, 3, 0,
        12, 2, 1, 4], 0x80) := by
  decide +kernel

theorem test_hidingInit_counters :
    after (exec .hidingInit (withAnswers [false, false, false, false, false, false, false, true] (base.setCounters 7 9))) (fun t => (t.dcnt, t.nopCount, t.prng, t.written.sched))
      = some (0, 0, 0x01, false) := by
  decide +kernel

theorem test_shuffleSboxAccess :
    after (exec .shuffleSboxAccess (base.setPrng 0x01)) (fun t => (t.perm.toList.map Fin.val, t.prng))
      = some ([7, 2, 0, 15, 9, 12, 5, 8, 3, 11, 10, 14, 4, 6, 1, 13], 0x62) := by
  decide +kernel

theorem test_dummyOp :
    after (exec .dummyOp (((base.setCfg 0x0C).setSched (Vector.replicate 40 2)).setCounters 39 0xFFFF))
      (fun t => (t.dcnt, t.nopCount, t.status)) = some (40, 1, 0) := by
  decide +kernel

theorem test_dummyOp_overrun :
    after (exec .dummyOp ((base.setCfg 0x04).setCounters 40 3)) (fun t => (t.dcnt, t.nopCount, t.status)) = some (40, 3, 0x08) := by
  decide +kernel

/-! ### AES core (V-KEY-1, V-AES-1, V-AES-3, V-AES-4) -/

theorem test_keyExpand :
    after (exec .keyExpand (nist 0)) (fun t => ((t.rk[1]).toList, (t.rk[10]).toList))
      = some ([0xa0, 0xfa, 0xfe, 0x17, 0x88, 0x54, 0x2c, 0xb1, 0x23, 0xa3, 0x39, 0x39, 0x2a, 0x6c, 0x76, 0x05],
        [0xd0, 0x14, 0xf9, 0xa8, 0xc9, 0xee, 0x25, 0x89, 0xe1, 0x3f, 0x0c, 0xc8, 0xb6, 0x63, 0x0c, 0xa6]) := by
  decide +kernel

theorem test_loadState :
    after (exec .loadState (nist 0)) (fun t => (t.state[0]).toList) = some [0x3a, 0x0d, 0xa8, 0x24] := by decide +kernel

theorem test_storeState :
    after (exec .storeState (withState nistCipher base)) (fun t => (decide (t.data = nistCipher), t.written.data[15]))
      = some (true, true) := by
  decide +kernel

theorem test_addRoundKey :
    after (exec (.addRoundKey 10) (withState nistCipher (base.setRk (keyExpand nistKey)))) flat
      = some [0xea, 0xc3, 0x82, 0x1c, 0xc4, 0x94, 0x13, 0xe9, 0x49, 0xa1, 0xc6, 0x3b, 0x92, 0x05, 0xe3, 0x31] := by
  decide +kernel

theorem test_addRoundKey_range : after (exec (.addRoundKey 11) base) (·.status) = some 0x02 := by decide

theorem test_invShiftRows :
    after (exec .invShiftRows (withState #v[0xea, 0xc3, 0x82, 0x1c, 0xc4, 0x94, 0x13, 0xe9, 0x49, 0xa1, 0xc6, 0x3b, 0x92, 0x05, 0xe3, 0x31] base)) flat
      = some [0xea, 0x05, 0xc6, 0xe9, 0xc4, 0xc3, 0xe3, 0x3b, 0x49, 0x94, 0x82, 0x31, 0x92, 0xa1, 0x13, 0x1c] := by
  decide +kernel

theorem test_invByteSub :
    after (exec .invByteSub (withState #v[0xea, 0x05, 0xc6, 0xe9, 0xc4, 0xc3, 0xe3, 0x3b, 0x49, 0x94, 0x82, 0x31, 0x92, 0xa1, 0x13, 0x1c] base)) flat
      = some [0xbb, 0x36, 0xc7, 0xeb, 0x88, 0x33, 0x4d, 0x49, 0xa4, 0xe7, 0x11, 0x2e, 0x74, 0xf1, 0x82, 0xc4] := by
  decide +kernel

/-- V-AES-2, round 9: through MSBOX in a shuffled order, with the prefix. -/
theorem test_invByteSub_masked :
    after (exec .invByteSub
        (withState #v[0xa7, 0x2a, 0x90, 0xc9, 0xdb, 0x17, 0xa5, 0x2d, 0xe5, 0x31, 0xd4, 0x7a, 0x53, 0xb5, 0x82, 0x8b]
          ((((base.setCfg 0x0F).setMsbox (maskedInvSbox 0x04 0x24)).setPerm (shuffledOrder 0x01).1).setSched
            (Vector.replicate 40 3)))) (fun t => (flat t, t.dcnt, t.nopCount))
      = some ([0x45, 0xd3, 0xc2, 0x57, 0x79, 0x62, 0x95, 0x44, 0xd9, 0x2b, 0x13, 0x99, 0x06, 0xa8, 0xc1, 0x1f], 1, 3) := by
  decide +kernel

theorem test_invMixCols :
    after (exec .invMixCols (withState #v[0x17, 0x41, 0xa1, 0x18, 0x91, 0xc9, 0x91, 0x68, 0x8c, 0x36, 0x38, 0x6f, 0x23, 0xad, 0x82, 0xaa] base)) flat
      = some [0x83, 0x33, 0xf0, 0xaf, 0xff, 0x15, 0xa6, 0xed, 0xc1, 0x91, 0xb4, 0x09, 0x77, 0x0e, 0x81, 0x5e] := by
  decide +kernel

/-- R275's example. -/
theorem test_decrypt : after (exec .decrypt (nist 0)) (fun t => t.data.toList) = some nistPlain := by decide +kernel

/-- V-AES-4, CFG = 0F. -/
theorem test_decrypt_hardened :
    after (exec .decrypt (withAnswers ([true, false, true, false, false, true, false, true] ++ [false, false, true, true, true, true, false, false]) (nist 0x0F)))
      (fun t => (t.data.toList, t.dcnt, t.nopCount, t.prng)) = some (nistPlain, 10, 28, 0xc2) := by
  decide +kernel

/-- The forward cipher of the reference file on S-1a. -/
theorem test_referenceEncrypt :
    referenceEncrypt nistKey #v[0x6b, 0xc1, 0xbe, 0xe2, 0x2e, 0x40, 0x9f, 0x96, 0xe9, 0x3d, 0x7e, 0x11, 0x73, 0x93, 0x17, 0x2a] = nistCipher := by
  decide +kernel

/-! ### Transceiver (R300 to R316) -/

theorem test_txByte :
    after (exec (.txByte 0x3B) base) (fun t => (t.xcvr.ocr, t.xcvr.trun, t.xcvr.dir, t.xcvr.outputBit, t.xcvr.fg))
      = some (372, true, .output, false, .txBit) := by
  decide

/-- V-T0-1: the frame of 3B. -/
theorem test_frame :
    (List.range 11).map (frameBit 0x3B)
      = [false, true, true, false, true, true, true, false, false, true, true] := by
  decide

theorem test_rxByte :
    after (exec .rxByte base) (fun t => (t.xcvr.pcie, t.xcvr.dir, t.xcvr.fg)) = some (true, .input, .rxWait) := by decide

/-- A match clears the counter and latches the start bit (V-T0-1, tick 372). -/
theorem test_tick_match :
    let s := base.setXcvr { txStart params base.xcvr with tcnt := 371 }
    ((timerStep s).xcvr.lineDrv, (timerStep s).xcvr.bitSent, (timerStep s).xcvr.tcnt) = (false, true, 0) := by
  decide

/-- A falling edge while receiving (V-T0-3): the first sample is 508 ticks away. -/
theorem test_pinChange :
    let s := base.setXcvr { rxStart base.xcvr with term := false }
    ((pinChangeStep s).xcvr.ocr, (pinChangeStep s).xcvr.trun, (pinChangeStep s).xcvr.pcie) = (508, true, false) := by
  decide

/-- Wrong parity turns the line round for the NACK (V-T0-4). -/
theorem test_parity_nack :
    let x := rxBit true { rxStart base.xcvr with inputByte := 0x88, inputBitCounter := 8 }
    (x.dir, x.parityError, x.byteReceived) = (.output, true, false) := by
  decide

/-! ### The reference host program (R368) -/

theorem test_reference_counts :
    let counts := fun opc : Byte => referencePass.countP fun i => fieldOpc (i.toWord 0) == opc
    (counts 0x61, counts 0x60, counts 0x3F, counts 0x11) = (26, 37, 1, 16) := by
  decide +kernel

/-! ### The hypotheses of the statements can be met, each clause at a boundary -/

theorem witness_DecodeFollowsOpcodeMap :
    (∃ row ∈ opcodeMap, row.opc = fieldOpc 0x61FFFF) ∧ (∀ row ∈ opcodeMap, row.opc ≠ fieldOpc 0x620000) ∧
    (∃ row ∈ opcodeMap, fieldOpc 0x3F0000 = row.opc ∧ fieldOpc 0x3FFFFF = row.opc ∧ row.usesA = false ∧ row.usesB = false) := by
  decide

theorem witness_AssemblerEncodesOperands : ∃ row ∈ opcodeMap, row.usesA = true ∧ row.usesB = true := by decide

/-- A host idle with a word of a row, by the agenda and under PROMPT. -/
theorem witness_StepRunsTheDecodedCommand :
    let s := base.withCommand 0x610000
    let p := base.setEnv { base.env with cmds := [.resInB 0x11 0] }
    (s.xcvr.fg = .idle ∧ s.env.cmds = [.word 0x610000] ∧ decodeTableWord 24 0x610000 = some .rxByte ∧ s.env.agenda = [.host]) ∧
    (p.xcvr.fg = .idle ∧ p.env.cmds = [.resInB 0x11 0] ∧ HostItem.toWord p.res (.resInB 0x11 0) = 0x110000 ∧
      (p.params.prompt = true ∧ p.env.agenda = []) ∧ p.env.dueWrite = none ∧ p.xcvr.edgeSeen = false ∧
      edgePending p.params p.xcvr = false) := by
  decide

theorem witness_HostStepOnIllegalWordOrBusy :
    let s := base.withCommand 0xFF0000
    (s.env.agenda = [.host] ∧ s.xcvr.fg = .idle ∧ s.env.cmds = [.word 0xFF0000] ∧
      ∀ row ∈ opcodeMap, row.opc ≠ fieldOpc (HostItem.toWord s.res (.word 0xFF0000))) ∧
    (s.setXcvr (rxStart s.xcvr)).xcvr.fg ≠ .idle := by
  decide

theorem witness_FetchWordIsTheNextCommand : decodeTableWord 24 0x0 = some .nop ∧ decodeTableWord 24 0x61FFFF = some .rxByte := by
  decide

theorem witness_StatusCommands :
    fieldOpc 0x00FFFF = 0x00 ∧ fieldOpc 0x010000 = 0x01 ∧ fieldOpc 0x020000 = 0x02 ∧ State.InRange base :=
  ⟨by decide, by decide, by decide, ⟨by decide, by decide, by decide, by decide, by decide⟩⟩

theorem witness_operand_words :
    (fieldOpc 0x100F00 = 0x10 ∧ (fieldA 0x100F00).toNat < 16) ∧ (fieldOpc 0x111000 = 0x11 ∧ 15 < (fieldA 0x111000).toNat) ∧
    (fieldOpc 0x120F00 = 0x12 ∧ (fieldA 0x120F00).toNat < 16 ∧ base.readable (.data 15) = true) ∧
    15 < (fieldA 0x12FF00).toNat := by
  decide

theorem witness_ConfigurationCommands : fieldOpc 0x14FFFF = 0x14 ∧ fieldOpc 0x13FFFF = 0x13 := by decide

theorem witness_FfmulReturnsTheProduct :
    fieldOpc 0x2000FF = 0x20 ∧ fieldA 0x2000FF = 0 ∧ fieldB 0x20FF00 = 0 ∧ fieldA 0x2001FF = 1 := by decide

theorem witness_FfMulIsFieldMultiplication : (1 : Byte) ≠ 0 ∧ ffMul 0x53 0xCA = 1 := by decide

theorem witness_RotrRotatesRight : (0 : Nat) ≤ ([] : List Byte).length ∧ 4 ≤ ([1, 2, 3, 4] : List Byte).length := by decide

theorem witness_RotrRowRotatesOneRow :
    fieldOpc 0x220304 = 0x22 ∧ (fieldA 0x220304).toNat ≤ 3 ∧ (fieldB 0x220304).toNat ≤ 4 ∧ base.readable .state = true ∧
    3 < (fieldA 0x220400).toNat ∧ 4 < (fieldB 0x220005).toNat := by
  decide

theorem witness_SboxTablesAreInverse : ffMul 0x53 0xCA = 1 := by decide

theorem witness_ParityAndMajority : fieldOpc 0x213B00 = 0x21 ∧ fieldOpc 0x25FDFF = 0x25 := by decide

/-- Eight answers, and eight conversions of which the third is unavailable. -/
theorem witness_seeding :
    (withAnswers [] base).EntropyAnswers 8 ∧ (failing base).EntropyAnswers 2 ∧
    (failing base).params.entropyCanFail = true ∧ ((failing base).env.conversionAt 2).unavailable = true ∧
    (failing (base.setCfg 0x0F)).DataReadable ∧ 2 < (failing (base.setCfg 0x0F)).conversionsNeeded := by
  refine ⟨fun t _ h => by simp [withAnswers, base, State.resetWith, State.powerUp, params, Config.target, State.setEnv] at h, ?_⟩
  refine ⟨by unfold State.EntropyAnswers; decide, by decide, by decide, ?_, by decide⟩
  unfold State.DataReadable; decide

theorem witness_seeding_words :
    fieldOpc 0x230000 = 0x23 ∧ fieldOpc 0x240000 = 0x24 ∧ fieldOpc 0x400000 = 0x40 ∧ fieldOpc 0x500000 = 0x50 ∧
    fieldOpc 0x510000 = 0x51 ∧ (base.setPrng 0).prng = 0 ∧ (base.setCfg 0x08).dpa = true ∧ base.dpa = false ∧
    (base.setCfg 0x04).dummyOps = true ∧ base.dummyOps = false := by
  decide

theorem witness_PrngStepIsOneCycle : (0xFF : Byte) ≠ 0 := by decide

theorem witness_DpaMasksCancel :
    let s := base.setCfg 0x08
    s.dpa = true ∧ s.EntropyAnswers 8 ∧ s.readable .state = true := by
  refine ⟨by decide, fun t _ h => ?_, by decide⟩
  simp [base, State.resetWith, State.powerUp, params, Config.target, State.setCfg] at h

theorem witness_masking :
    fieldOpc 0x410000 = 0x41 ∧ fieldOpc 0x420000 = 0x42 ∧ fieldOpc 0x430000 = 0x43 ∧ fieldOpc 0x440000 = 0x44 ∧
    fieldOpc 0x45FF00 = 0x45 ∧ base.readable .masks = true ∧ base.readable .state = true ∧ base.readable .msbox = true ∧
    { strict with written := { strict.written with masks := true } }.readable .masks = true := by
  decide

theorem witness_DummyOpConsumesTheSchedule :
    let s := (base.setCfg 0x04).setCounters 39 0
    fieldOpc 0x520000 = 0x52 ∧ base.dummyOps = false ∧ (s.dcnt < 40 ∧ s.dummyOps = true ∧ s.readable .sched = true) ∧
    (s.setCounters 40 0).dummyOps = true ∧ 40 ≤ (s.setCounters 40 0).dcnt := by
  decide

theorem witness_KeyExpandFollowsTheSchedule : fieldOpc 0x30FFFF = 0x30 := by decide

theorem witness_LoadAndStoreAreColumnMajor :
    fieldOpc 0x310000 = 0x31 ∧ fieldOpc 0x320000 = 0x32 ∧ (nist 0).DataReadable ∧ base.readable .state = true := by
  refine ⟨by decide, by decide, ?_, by decide⟩
  unfold State.DataReadable; decide

/-- A layer with an active prefix at the last entry, and one at the overrun. -/
theorem witness_layers :
    let s := (base.setCfg 0x07).setCounters 39 0
    (s.PrefixReady true ∧ s.PrefixReady false ∧ s.readable .state = true ∧ s.readable .mrk = true ∧ s.readable .msbox = true ∧
      s.readable .perm = true) ∧
    (fieldOpc 0x330A00 = 0x33 ∧ (fieldA 0x330A00).toNat < 11 ∧ 10 < (fieldA 0x330B00).toNat) ∧
    (fieldOpc 0x340000 = 0x34 ∧ fieldOpc 0x350000 = 0x35 ∧ fieldOpc 0x360000 = 0x36) ∧
    (s.setCounters 40 0).prefixActive true = true ∧ (s.setCounters 40 0).prefixActive false = true ∧
    40 ≤ (s.setCounters 40 0).dcnt := by
  unfold State.PrefixReady; decide

/-- PERM a permutation with SHUFFLING on. -/
theorem witness_InvByteSub_order :
    let s := (base.setCfg 0x02).setPerm (Vector.ofFn fun i : Fin 16 => i)
    s.shuffling = true ∧ s.perm.toList.Perm (List.finRange 16) := by
  decide

/-- DECRYPT's premises under every countermeasure, and on a block the forward cipher made. -/
theorem witness_decrypt :
    (nist 0x0F).DataReadable ∧ (nist 0x0F).EntropyAnswers (nist 0x0F).conversionsNeeded ∧ (nist 0x0F).dummyOps = true ∧
    (nist 0x0F).dpa = true ∧ (nist 0x04).dpa = false ∧ (nist 0).masking = false ∧ (nist 0).shuffling = false ∧
    (nist 0).dummyOps = false := by
  refine ⟨by unfold State.DataReadable; decide, fun t _ h => ?_, by decide⟩
  simp [nist, base, State.resetWith, State.powerUp, params, Config.target, State.setCfg, State.setData] at h

theorem witness_DecryptInvertsEncryption :
    (nist 0).data = referenceEncrypt (nist 0).key #v[0x6b, 0xc1, 0xbe, 0xe2, 0x2e, 0x40, 0x9f, 0x96, 0xe9, 0x3d, 0x7e, 0x11, 0x73, 0x93, 0x17, 0x2a] := by
  decide +kernel

theorem witness_transmit :
    let x := { txStart params base.xcvr with bitSent := true }
    fieldOpc 0x60FF00 = 0x60 ∧ (x.fg = .txBit ∧ x.bitSent = true ∧ x.txIdx < 10) ∧
    ({ x with txIdx := 10 } : Xcvr).txIdx = 10 ∧ (txStart params base.xcvr).bitSent = false ∧
    (txBitStep params { x with txIdx := 10 }).fg = .txCheck ∧ (txBitStep params { x with txIdx := 10 }).checkErrors = true ∧
    base.xcvr.errorBit = true ∧ base.xcvr.checkErrors = false := by
  decide

theorem witness_RxByteArmsAndCompletes :
    fieldOpc 0x610000 = 0x61 ∧ (rxStart base.xcvr).fg = .rxWait ∧ (rxStart base.xcvr).byteReceived = false ∧
    ({ rxStart base.xcvr with byteReceived := true } : Xcvr).byteReceived = true := by
  decide

/-- An edge seen with PCIE on (falling and rising) and off, and one latched. -/
theorem witness_PinChangeDetectorActs :
    let x := { rxStart base.xcvr with term := false }
    base.xcvr.line = base.xcvr.linePrev ∧ (x.line ≠ x.linePrev ∧ x.pcie = true ∧ x.line = false ∧ x.dir = .input) ∧
    (({ rxStart base.xcvr with linePrev := false } : Xcvr).line = true) ∧ ({ x with pcie := false } : Xcvr).line ≠ x.linePrev ∧
    ({ params with pcintLatch := true } : Params).pcintLatch = true ∧ ({ x with pcPend := true } : Xcvr).pcPend = true := by
  decide

/-- A clear counter, OCR 0 and OCR below the counter. -/
theorem witness_TimerMatchesAtOcr :
    let x := txStart params base.xcvr
    (x.trun = true ∧ x.tcnt = 0 ∧ 1 ≤ x.ocr.toNat) ∧ (base.xcvr.trun = false ∧ base.xcvr.tcnt = 0 ∧ base.xcvr.ocr = 0) ∧
    ({ x with tcnt := 322, ocr := 322 } : Xcvr).ocr.toNat ≤ ({ x with tcnt := 322, ocr := 322 } : Xcvr).tcnt.toNat := by
  decide

/-- A guard interval without GLITCH_FREE takes a free sample. -/
theorem witness_TimerHandlerDispatches_glitch :
    let s := { base with
      xcvr := { base.xcvr with checkErrors := true }, params := { params with glitchFree := false } }
    s.xcvr.checkErrors = true ∧ s.params.glitchFree = false := by
  decide

/-- A state of the transceiver for each branch of the handler. -/
theorem witness_TimerHandlerDispatches :
    let x := rxStart base.xcvr
    ({ x with checkErrors := true } : Xcvr).checkErrors = true ∧ params.glitchFree = true ∧ x.checkErrors = false ∧
    x.nackDriven = false ∧ x.dir = .input ∧ ({ x with nackDriven := true } : Xcvr).nackDriven = true ∧
    (rxBit true { x with inputBitCounter := 8 }).dir = .output ∧ (rxBit true { x with inputBitCounter := 8 }).parityError = true ∧
    (txStart params x).dir = .output ∧ (txStart params x).parityError = false := by
  decide

/-- The samples with and without GLITCH_FREE, and the boundary positions of a frame. -/
theorem witness_RxSampleTakesOneBit :
    let s := base.setXcvr (rxStart base.xcvr)
    (s.params.glitchFree = true ∧ s.xcvr.line = true ∧ s.xcvr.inputBitCounter = 0) ∧
    ({ s.params with glitchFree := false } : Params).glitchFree = false ∧ (rxSample s).xcvr.inputBitCounter = 1 ∧
    ({ s.xcvr with inputBitCounter := 8 } : Xcvr).line ≠ parityBit s.xcvr.inputByte ∧ true = parityBit 0x01 ∧
    (rxBit true { s.xcvr with inputBitCounter := 8 }).inputBitCounter = 9 := by
  decide

theorem witness_ReceivedFrameYieldsTheByte :
    (rxStart base.xcvr).inputBitCounter = 0 ∧ (rxStart base.xcvr).inputByte = 0 ∧ true = parityBit 0x01 ∧ true ≠ parityBit 0x00 := by
  decide

theorem witness_AcknowledgedTransmitCompletes :
    base.PromptTurn ∧ base.params.glitchFree = true ∧ base.params.etuTicks = 372 ∧ base.params.fudge = 50 ∧
    base.env.termScript = [] ∧ base.xcvr.term = true ∧ base.xcvr.fg = .idle ∧ base.xcvr.Prompt :=
  ⟨⟨rfl, rfl⟩, rfl, rfl, rfl, rfl, rfl, rfl, rfl, rfl, rfl, rfl, rfl⟩

theorem witness_commands : exec .nop base = .next base ∧ Instr.nop ≠ .clrstat := ⟨rfl, by decide⟩

/-- Nothing written, strictReads on, at the first and the last entry of the schedule. -/
theorem witness_UnwrittenReadFaults :
    strict.params.strictReads = true ∧ strict.written.data[15] = false ∧ strict.written.state = false ∧
    strict.written.masks = false ∧ strict.written.msbox = false ∧ strict.written.mrk = false ∧ strict.masking = true ∧
    strict.PrefixReady true ∧ strict.written.perm = false ∧ strict.shuffling = true ∧ (strict.setCfg 0x02).PrefixReady false ∧
    strict.written.sched = false ∧ strict.dummyOps = true ∧ strict.dcnt < 40 := by
  unfold State.PrefixReady; decide

theorem witness_NothingStopsWithStrictReadsOff : base.params.strictReads = false := by decide

/-- Nothing written but the schedule: a layer comes to STATE, masked or not. -/
theorem witness_UnwrittenReadFaults_state :
    let s := { strict with written := { strict.written with sched := true, mrk := true, perm := true } }
    s.params.strictReads = true ∧ s.written.state = false ∧ s.PrefixReady true ∧ s.PrefixReady false ∧
    s.masking = true ∧ s.written.mrk = true ∧ s.shuffling = true ∧ s.written.perm = true ∧
    (strict.setCfg 0).PrefixReady true ∧ (strict.setCfg 0).masking = false ∧ (strict.setCfg 0).shuffling = false := by
  unfold State.PrefixReady; decide

/-- STATE written, the masks and MSBOX not. -/
theorem witness_UnwrittenReadFaults_masked :
    let s := { strict with written := { strict.written with sched := true, perm := true, state := true } }
    s.params.strictReads = true ∧ s.written.masks = false ∧ s.written.msbox = false ∧ s.written.state = true ∧
    s.masking = true ∧ s.shuffling = true ∧ s.written.perm = true ∧ s.PrefixReady false := by
  unfold State.PrefixReady; decide

/-- The last entry of an unwritten schedule, with a prefix before every layer and with DPA's before INV_BYTE_SUB only. -/
theorem witness_UnwrittenReadFaults_prefix :
    let s := (strict.setCfg 0x04).setCounters 39 0
    s.params.strictReads = true ∧ s.written.sched = false ∧ s.dcnt < 40 ∧ s.prefixActive true = true ∧
    s.prefixActive false = true ∧ strict.prefixActive true = false ∧ strict.prefixActive false = true := by
  decide

theorem witness_reset_InRange : base.InRange := ⟨by decide, by decide, by decide, by decide, by decide⟩

theorem witness_reset_MasksConsistent : base.MasksConsistent := ⟨nofun, nofun, nofun⟩

theorem witness_reset_HidingConsistent : base.HidingConsistent := ⟨nofun, nofun, nofun⟩

/-- A prompt turn from the invariant answers a next state. -/
theorem witness_PromptStepsKeepIdleQuiet :
    base.PromptTurn ∧ base.xcvr.Prompt ∧ step base = .next base :=
  ⟨⟨rfl, rfl⟩, ⟨rfl, rfl, rfl, rfl, rfl⟩, rfl⟩

end Sys2Proof.Tests
end

section
/-! SUPPORT. O50: a postcondition of an effect, rule by rule, and the postcondition "STATUS as before" of every command but
CLRSTAT (R380, R389). -/

namespace Sys2Proof.Machine

/-! ### Postconditions of an effect -/

/-- Where the command has its effect, the state it leaves satisfies `P`; a raise and a stop satisfy every `P`. -/
def Effect.Ensures (P : State → Prop) (r : Effect) : Prop := ∀ t, r = .done t → P t

section

variable {P Q : State → Prop}

@[simp] theorem ensures_done {t : State} : (Effect.done t).Ensures P ↔ P t := by simp [Effect.Ensures]

@[simp] theorem ensures_raised (e : CmdError) (env : Env) : (Effect.raised e env).Ensures P := by
  simp [Effect.Ensures]

@[simp] theorem ensures_stopped (f : Fault) : (Effect.stopped f).Ensures P := by simp [Effect.Ensures]

/-- Sequencing: what the first part ensures is what the second may start from. -/
theorem ensures_andThen {r : Effect} {k : State → Effect} (hr : r.Ensures Q) (hk : ∀ u, Q u → (k u).Ensures P) :
    (r.andThen k).Ensures P := by
  intro t h
  obtain ⟨u, hu, ht⟩ := andThen_eq_done_iff.1 h
  exact hk u (hr u hu) t ht

@[simp] theorem ensures_operand {n : Nat} (a : Byte) (s : State) {k : Fin n → Effect} (h : ∀ i, (k i).Ensures P) :
    (operand n a s k).Ensures P := by
  rcases Nat.lt_or_ge a.toNat n with ha | ha
  · rw [operand_inRange s k ha]; exact h _
  · rw [operand_outOfRange s k ha]; exact ensures_raised _ _

@[simp] theorem ensures_reading (es : List Element) (s : State) {k : Effect} (h : k.Ensures P) :
    (reading es s k).Ensures P := fun t ht => h t (reading_eq_done_iff.1 ht).2

@[simp] theorem ensures_seeding (s : State) {k : State → Effect} (h : ∀ e x, (k ((s.setEnv e).setPrng x)).Ensures P) :
    (seeding s k).Ensures P := by
  obtain ⟨n, -, ⟨x, hx⟩ | hx⟩ := seeding_cases s k
  · rw [hx]; exact h _ x
  · rw [hx]; exact ensures_raised _ _

end

/-! ### STATUS -/

@[simp] theorem drawnSchedule_status (s : State) : s.drawnSchedule.status = s.status := by rw [drawnSchedule_frame]

@[simp] theorem drawnMasks_status (s : State) : s.drawnMasks.status = s.status := by rw [drawnMasks_frame]

theorem dummyOperation_keeps_status (s : State) : (dummyOperation s).Ensures (·.status = s.status) := by
  obtain ⟨d, -, n, -, h⟩ | h | h := dummyOperation_cases s <;> simp [h]

/-- The shape of the four layer commands, a dummy op, a guarded read and STATE written, keeps STATUS. -/
theorem layer_keeps_status (s : State) (linear : Bool) (es : State → List Element) (f : State → StateMatrix) :
    ((if s.prefixActive linear then dummyOperation s else .done s).andThen fun t =>
      reading (es t) t (.done (t.setState (f t)))).Ensures (·.status = s.status) := by
  refine ensures_andThen (Q := (·.status = s.status)) ?_ ?_
  · split
    · exact dummyOperation_keeps_status s
    · exact ensures_done.2 rfl
  · intro u hu
    exact ensures_reading _ _ (ensures_done.2 hu)

/-- No line of the micro-program writes STATUS (R275). -/
theorem perform_keeps_status (op : MicroOp) (s : State) : (perform op s).Ensures (·.status = s.status) := by
  cases op
  case addRoundKey i => simpa only [perform, addRoundKey, dummyPrefixLinear_eq] using layer_keeps_status s true _ _
  case invShiftRows => simpa only [perform, invShiftRows, dummyPrefixLinear_eq] using layer_keeps_status s true _ _
  case invByteSub => simpa only [perform, invByteSub, dummyPrefixSub_eq] using layer_keeps_status s false _ _
  case invMixCols => simpa only [perform, invMixCols, dummyPrefixLinear_eq] using layer_keeps_status s true _ _
  all_goals
    simp [perform, expandKey, loadState, maskInit, maskSubkeys, invMaskState, hidingInit, shuffleSboxAccess,
      invRemaskState, invUnmaskState, storeState]

theorem performAll_keeps_status (ops : List MicroOp) (s : State) :
    (performAll ops s).Ensures (·.status = s.status) := fun _ =>
  performAll_keeps (P := (·.status = s.status))
    (fun op u _ hu ht => (perform_keeps_status op u _ ht).trans hu) rfl

/-- Every command but CLRSTAT settles an effect that leaves STATUS as it was: only a raise sets a bit (R380). -/
theorem exec_settles_keeping_status {i : Instr} (hi : i ≠ .clrstat) (s : State) :
    ∃ r : Effect, exec i s = settle s r ∧ r.Ensures (·.status = s.status) := by
  cases i
  case clrstat => exact absurd rfl hi
  case decrypt => exact ⟨_, rfl, performAll_keeps_status _ s⟩
  case keyExpand => exact ⟨_, rfl, perform_keeps_status .keyExpand s⟩
  case loadState => exact ⟨_, rfl, perform_keeps_status .loadState s⟩
  case storeState => exact ⟨_, rfl, perform_keeps_status .storeState s⟩
  case addRoundKey a => exact ⟨_, rfl, ensures_operand a s fun i => perform_keeps_status (.addRoundKey i) s⟩
  case invShiftRows => exact ⟨_, rfl, perform_keeps_status .invShiftRows s⟩
  case invByteSub => exact ⟨_, rfl, perform_keeps_status .invByteSub s⟩
  case invMixCols => exact ⟨_, rfl, perform_keeps_status .invMixCols s⟩
  case maskInit => exact ⟨_, rfl, perform_keeps_status .maskInit s⟩
  case maskSubkeys => exact ⟨_, rfl, perform_keeps_status .maskSubkeys s⟩
  case invMaskState => exact ⟨_, rfl, perform_keeps_status .invMaskState s⟩
  case invRemaskState => exact ⟨_, rfl, perform_keeps_status .invRemaskState s⟩
  case invUnmaskState => exact ⟨_, rfl, perform_keeps_status .invUnmaskState s⟩
  case hidingInit => exact ⟨_, rfl, perform_keeps_status .hidingInit s⟩
  case shuffleSboxAccess => exact ⟨_, rfl, perform_keeps_status .shuffleSboxAccess s⟩
  case wkey a b | wdata a b => exact ⟨_, rfl, ensures_operand a s fun _ => ensures_done.2 rfl⟩
  case rdata a => exact ⟨_, rfl, ensures_operand a s fun _ => ensures_reading _ s (ensures_done.2 rfl)⟩
  case rotrRow a b =>
    exact ⟨_, rfl, ensures_operand a s fun _ => ensures_operand b s fun _ => ensures_reading _ s (ensures_done.2 rfl)⟩
  case rdMsbox => exact ⟨_, rfl, ensures_reading _ s (ensures_done.2 rfl)⟩
  case prngSeed => exact ⟨_, rfl, ensures_seeding s fun _ _ => ensures_done.2 rfl⟩
  case dummyOp => exact ⟨_, rfl, dummyOperation_keeps_status s⟩
  all_goals exact ⟨.done _, rfl, ensures_done.2 rfl⟩

/-- Settles O50: an effect that is had keeps STATUS, and one that raises changes nothing but its bit. -/
theorem errorsArePrecise : Obligations.ErrorsArePrecise := by
  intro i s t h hi
  obtain ⟨r, hr, hkeeps⟩ := exec_settles_keeping_status hi s
  obtain rfl | ⟨e, env, -, rfl⟩ := settle_next_cases (hr ▸ h)
  · exact .inl (hkeeps t rfl)
  · exact .inr ⟨e, rfl⟩

end Sys2Proof.Machine
end

section
/-! SUPPORT. O40: DECRYPT's micro-program up to its seedings (R275), and the first conversion that is unavailable among
those it makes (R11, R183, R383). -/

namespace Sys2Proof.Machine

/-! ### The first unavailable conversion -/

/-- The oracle answers `n` conversions, and the one after them is UNAVAILABLE (R182). -/
structure State.FirstUnavailable (s : State) (n : Nat) : Prop where
  answers : s.EntropyAnswers n
  can_fail : s.params.entropyCanFail = true
  unavailable : (s.env.conversionAt n).unavailable = true

/-- Enough answers for a longer wait are enough for a shorter one. -/
theorem State.EntropyAnswers.mono {s : State} {m n : Nat} (h : s.EntropyAnswers n) (hmn : m ≤ n) : s.EntropyAnswers m :=
  fun t ht => h t (Nat.lt_of_lt_of_le ht hmn)

/-- After `k` conversions that answer, the first unavailable one is `k` nearer. -/
theorem State.FirstUnavailable.later {s t : State} {k n : Nat} (h : s.FirstUnavailable (k + n)) (hp : t.params = s.params)
    (he : t.env = s.env.afterConversions k) : t.FirstUnavailable n where
  answers i hi hc := by
    rw [he, Env.afterConversions_conversionAt]
    exact h.answers (k + i) (by omega) (hp ▸ hc)
  can_fail := hp ▸ h.can_fail
  unavailable := by rw [he, Env.afterConversions_conversionAt]; exact h.unavailable

/-- A seeding in whose eight conversions the first unavailable one lies raises there (R183). -/
theorem seeding_of_firstUnavailable {s : State} {n : Nat} (h : s.FirstUnavailable n) (hn : n < 8) (k : State → Effect) :
    seeding s k = .raised .entropyUnavailable (s.env.afterConversions (n + 1)) :=
  seeding_of_unavailable hn h.answers h.can_fail h.unavailable k

theorem maskInit_of_firstUnavailable {s : State} {n : Nat} (h : s.FirstUnavailable n) (hn : n < 8) :
    maskInit s = .raised .entropyUnavailable (s.env.afterConversions (n + 1)) := seeding_of_firstUnavailable h hn _

theorem hidingInit_of_firstUnavailable {s : State} {n : Nat} (h : s.FirstUnavailable n) (hn : n < 8) :
    hidingInit s = .raised .entropyUnavailable (s.env.afterConversions (n + 1)) := seeding_of_firstUnavailable h hn _

/-! ### The parts of the micro-program -/

/-- The micro-program's lines that mask the block (R275). -/
def maskingLines (masking : Bool) : List MicroOp := if masking then [.maskInit, .maskSubkeys, .invMaskState] else []

/-- The micro-program's line that seeds for hiding (R275). -/
def hidingLines (seeds : Bool) : List MicroOp := if seeds then [.hidingInit] else []

/-- The micro-program's lines after its last seeding: the access order, the rounds, and STORE_STATE (R275). -/
def cipherLines (masking shuffling : Bool) : List MicroOp :=
  let order : List MicroOp := if shuffling then [.shuffleSboxAccess] else []
  let first : List MicroOp := [.addRoundKey 10, .invShiftRows, .invByteSub]
  let rounds : List (Fin Config.nRoundKeys) := [9, 8, 7, 6, 5, 4, 3, 2, 1]
  let unmask : List MicroOp := if masking then [.invUnmaskState] else []
  order ++ (first ++ (rounds.flatMap (microRound masking) ++ (.addRoundKey 0 :: (unmask ++ [.storeState]))))

/-- The micro-program is the load, the masking, the hiding and the cipher, in this order (R275). -/
theorem microProgram_eq (s : State) :
    s.microProgram = [.keyExpand, .loadState] ++ (maskingLines s.masking ++
      (hidingLines (s.shuffling || s.dummyOps) ++ cipherLines s.masking s.shuffling)) := by
  simp only [State.microProgram, microProgram, maskingLines, hidingLines, cipherLines, List.append_assoc,
    List.cons_append, List.nil_append]

/-- The state after KEY_EXPAND and LOAD_STATE (R261, R263). -/
def State.loaded (s : State) : State := (s.setRk (keyExpand s.key)).setState (matrixOfBlock s.data)

@[simp] theorem State.loaded_params (s : State) : s.loaded.params = s.params := by simp [State.loaded]
@[simp] theorem State.loaded_env (s : State) : s.loaded.env = s.env := by simp [State.loaded]
@[simp] theorem State.loaded_written (s : State) : s.loaded.written = { s.written with state := true } := by
  simp [State.loaded]

/-- Every element LOAD_STATE reads can be read when DATA can. -/
theorem State.DataReadable.dataElements_readable {s : State} (h : s.DataReadable) : ∀ e ∈ dataElements, s.readable e = true := by
  intro e he
  obtain ⟨i, -, rfl⟩ := List.mem_map.1 he
  exact h i

theorem loadState_of_readable {s : State} (h : s.DataReadable) :
    loadState s = .done (s.setState (matrixOfBlock s.data)) :=
  reading_of_readable h.dataElements_readable _

theorem performAll_load {s : State} (h : s.DataReadable) : performAll [.keyExpand, .loadState] s = .done s.loaded := by
  have hload : loadState (s.setRk (keyExpand s.key)) = .done s.loaded := loadState_of_readable h
  simp [performAll_cons, perform, expandKey, hload]

@[simp] theorem drawnMasks_params (s : State) : s.drawnMasks.params = s.params := by rw [drawnMasks_frame]
@[simp] theorem drawnMasks_env (s : State) : s.drawnMasks.env = s.env := by rw [drawnMasks_frame]
@[simp] theorem drawnMasks_written (s : State) :
    s.drawnMasks.written = { s.written with masks := true, msbox := true } := by rw [drawnMasks_frame]

/-- The state whose eight conversions have answered and whose PRNG holds their seed (R183). -/
def State.seeded (s : State) : State := (s.setEnv (s.env.afterConversions 8)).setPrng s.seed

/-- The state after MASK_SUBKEYS: the masks drawn, the round keys masked (R201, R205). -/
def State.maskedKeys (s : State) : State :=
  s.seeded.drawnMasks.setMrk (maskedTable s.seeded.drawnMasks.masks s.seeded.drawnMasks.rk)

/-- The state after the masking lines, their seeding having answered (R206). -/
def State.masked (s : State) : State :=
  s.maskedKeys.setState (xorRows s.maskedKeys.masks.first s.maskedKeys.state)

@[simp] theorem State.masked_params (s : State) : s.masked.params = s.params := by
  simp [State.masked, State.maskedKeys, State.seeded]

@[simp] theorem State.masked_env (s : State) : s.masked.env = s.env.afterConversions 8 := by
  simp [State.masked, State.maskedKeys, State.seeded]

/-- The masking lines complete when STATE is written and eight conversions answer: MASK_INIT itself writes the masks that
the next two read. -/
theorem performAll_masking {s : State} (hw : s.written.state = true) (h : s.EntropyAnswers 8) :
    performAll (maskingLines true) s = .done s.masked := by
  have hinit : maskInit s = .done s.seeded.drawnMasks := maskInit_of_answers h
  have hkeys : maskSubkeys s.seeded.drawnMasks = .done s.maskedKeys :=
    reading_of_readable (by simp [State.readable, State.holds]) _
  have hmask : invMaskState s.maskedKeys = .done s.masked :=
    reading_of_readable (by simp [State.readable, State.holds, State.maskedKeys, State.seeded, hw]) _
  simp [maskingLines, performAll_cons, perform, hinit, hkeys, hmask]

/-! ### DECRYPT -/

/-- The masking lines raise when the first unavailable conversion is one of MASK_INIT's eight. -/
theorem performAll_masking_raises {s : State} {n : Nat} (h : s.FirstUnavailable n) (hn : n < 8) (rest : List MicroOp) :
    performAll (maskingLines true ++ rest) s = .raised .entropyUnavailable (s.env.afterConversions (n + 1)) := by
  simp [maskingLines, performAll_cons, perform, maskInit_of_firstUnavailable h hn]

/-- The hiding line raises when the first unavailable conversion is one of HIDING_INIT's eight. -/
theorem performAll_hiding_raises {s : State} {n : Nat} (h : s.FirstUnavailable n) (hn : n < 8) (rest : List MicroOp) :
    performAll (hidingLines true ++ rest) s = .raised .entropyUnavailable (s.env.afterConversions (n + 1)) := by
  simp [hidingLines, performAll_cons, perform, hidingInit_of_firstUnavailable h hn]

/-- DECRYPT's lines after the load raise at the first unavailable conversion: in MASK_INIT's seeding, in HIDING_INIT's
after it, or in HIDING_INIT's alone (R275). -/
theorem performAll_seedings_raise {s : State} {n : Nat} (hw : s.written.state = true) (h : s.FirstUnavailable n)
    (masking seeds : Bool) (hn : n < (if masking then 8 else 0) + (if seeds then 8 else 0)) (rest : List MicroOp) :
    performAll (maskingLines masking ++ (hidingLines seeds ++ rest)) s =
      .raised .entropyUnavailable (s.env.afterConversions (n + 1)) := by
  cases masking with
  | false =>
    obtain rfl : seeds = true := by by_contra hc; simp [hc] at hn
    exact performAll_hiding_raises h (by simpa using hn) rest
  | true =>
    rcases Nat.lt_or_ge n 8 with h8 | h8
    · exact performAll_masking_raises h h8 _
    · obtain rfl : seeds = true := by by_contra hc; simp [hc] at hn; omega
      obtain ⟨m, rfl⟩ : ∃ m, n = 8 + m := ⟨n - 8, by omega⟩
      have hm8 : m < 8 := by simp at hn; omega
      have hm : s.masked.FirstUnavailable m := h.later s.masked_params s.masked_env
      rw [performAll_append, performAll_masking hw (h.answers.mono h8), andThen_done,
        performAll_hiding_raises hm hm8, State.masked_env, Env.afterConversions_add, Nat.add_assoc]

/-- Settles O40: the load completes, and the seeding with the first unavailable conversion raises. -/
theorem decryptIsAllOrNothing : Obligations.DecryptIsAllOrNothing := by
  intro s n hdata hn hanswers hfail hunavailable
  have h : s.FirstUnavailable (0 + n) := by rw [Nat.zero_add]; exact ⟨hanswers, hfail, hunavailable⟩
  have hloaded : s.loaded.FirstUnavailable n := h.later s.loaded_params s.loaded_env
  have hraise : performAll s.microProgram s = .raised .entropyUnavailable (s.env.afterConversions (n + 1)) := by
    rw [microProgram_eq, performAll_append, performAll_load hdata, andThen_done,
      performAll_seedings_raise (by simp) hloaded _ _ hn, State.loaded_env]
  calc exec .decrypt s = settle s (performAll s.microProgram s) := rfl
    _ = .next ((s.setEnv (s.env.afterConversions (n + 1))).raise .entropyUnavailable) := by rw [hraise, settle_raised]
    _ = .next { s with status := s.status ||| 0x04, env := s.env.afterConversions (n + 1) } := rfl

end Sys2Proof.Machine
end

section
/-! SUPPORT. O52: every command as one effect, and the write set of each command (R22 to R35, R393). -/

namespace Sys2Proof.Machine

/-! ### The effect of a command -/

/-- The effect that `exec` settles (R11); the commands that are lines of the micro-program share its rules (R275). -/
def commandEffect : Instr → State → Effect
  | .nop, s => .done s
  | .clrstat, s => .done s.clearErrors
  | .rdstat, s => .done (s.setRes s.status)
  | .wkey a b, s => operand 16 a s fun i => .done (s.setKeyByte i b)
  | .wdata a b, s => operand 16 a s fun i => .done (s.setDataByte i b)
  | .rdata a, s => operand 16 a s fun i => reading [.data i] s (.done (s.setRes s.data[i]))
  | .wcfg b, s => .done (s.setCfg (cfgValue b))
  | .rcfg, s => .done (s.setRes (cfgValue s.cfg))
  | .ffmul a b, s => .done (s.setRes (ffMul a b))
  | .parity a, s => .done (s.setRes (zext8 (parityBit a)))
  | .rotrRow a b, s => operand 4 a s fun r => operand 5 b s fun k =>
      reading [.state] s (.done (s.setState (rotateRow s.state r k.val)))
  | .prngSeed, s => seeding s .done
  | .prngNext, s => .done ((s.setPrng (prngStep s.prng)).setRes (prngStep s.prng))
  | .maj3 a, s => .done (s.setRes (zext8 (maj3 (samplesOf a).1 (samplesOf a).2.1 (samplesOf a).2.2)))
  | .keyExpand, s => perform .keyExpand s
  | .loadState, s => perform .loadState s
  | .storeState, s => perform .storeState s
  | .addRoundKey a, s => operand Config.nRoundKeys a s fun i => perform (.addRoundKey i) s
  | .invShiftRows, s => perform .invShiftRows s
  | .invByteSub, s => perform .invByteSub s
  | .invMixCols, s => perform .invMixCols s
  | .decrypt, s => performAll s.microProgram s
  | .maskInit, s => perform .maskInit s
  | .maskSubkeys, s => perform .maskSubkeys s
  | .invMaskState, s => perform .invMaskState s
  | .invRemaskState, s => perform .invRemaskState s
  | .invUnmaskState, s => perform .invUnmaskState s
  | .rdMsbox a, s => reading [.msbox] s (.done (s.setRes (maskedLookup s.msbox a)))
  | .hidingInit, s => perform .hidingInit s
  | .shuffleSboxAccess, s => perform .shuffleSboxAccess s
  | .dummyOp, s => dummyOperation s
  | .txByte a, s => .done (s.setXcvr (txStart s.params { s.xcvr with txb := a }))
  | .rxByte, s => .done (s.setXcvr (rxStart s.xcvr))

theorem exec_eq_settle (i : Instr) (s : State) : exec i s = settle s (commandEffect i s) := by
  cases i <;> rfl

/-- A command that answers a next state has had its effect, or has raised and changed its STATUS bit only. -/
theorem exec_next_cases {i : Instr} {s t : State} (h : exec i s = .next t) :
    commandEffect i s = .done t ∨ ∃ e env, t = (s.setEnv env).raise e := by
  rw [exec_eq_settle] at h
  obtain hd | ⟨e, env, -, rfl⟩ := settle_next_cases h
  · exact .inl hd
  · exact .inr ⟨e, env, rfl⟩

/-! ### The layers share one shape -/

/-- The dummy op before a layer, where it is active (R235). -/
def dummyPrefix (linear : Bool) (s : State) : Effect := if s.prefixActive linear then dummyOperation s else .done s

/-- A layer command: its dummy op, a guarded read of `es`, and STATE written (R266 to R270). -/
def layer (linear : Bool) (es : State → List Element) (f : State → StateMatrix) (s : State) : Effect :=
  (dummyPrefix linear s).andThen fun t => reading (es t) t (.done (t.setState (f t)))

theorem addRoundKey_eq_layer (i : Fin Config.nRoundKeys) (s : State) :
    addRoundKey i s = layer true State.roundKeyElements (fun t => xorRoundKey (t.roundKey i) t.state) s := by
  rw [addRoundKey, dummyPrefixLinear_eq]; rfl

theorem invShiftRows_eq_layer (s : State) :
    invShiftRows s = layer true (fun _ => [.state]) (fun t => shiftRowsRight t.state) s := by
  rw [invShiftRows, dummyPrefixLinear_eq]; rfl

theorem invByteSub_eq_layer (s : State) :
    invByteSub s =
      layer false State.byteSubElements (fun t => substituteBytes t.substitution t.accessOrder t.state) s := by
  rw [invByteSub, dummyPrefixSub_eq]; rfl

theorem invMixCols_eq_layer (s : State) :
    invMixCols s = layer true (fun _ => [.state]) (fun t => unmixColumns t.state) s := by
  rw [invMixCols, dummyPrefixLinear_eq]; rfl

/-! ### Write sets -/

/-- The parts of the state whose writers the spec names (R8, R22 to R35, R393). -/
inductive Part where
  | params
  | cfg
  | status
  | key
  | rk
  | mrk
  | masks
  | msbox
  | perm
  | sched
  | dcnt
  | xcvr
  deriving DecidableEq

/-- The part holds in `t` what it holds in `s`. -/
def Part.Kept (s t : State) : Part → Prop
  | .params => t.params = s.params
  | .cfg => t.cfg = s.cfg
  | .status => t.status = s.status
  | .key => t.key = s.key
  | .rk => t.rk = s.rk
  | .mrk => t.mrk = s.mrk
  | .masks => t.masks = s.masks
  | .msbox => t.msbox = s.msbox
  | .perm => t.perm = s.perm
  | .sched => t.sched = s.sched
  | .dcnt => t.dcnt = s.dcnt
  | .xcvr => t.xcvr = s.xcvr

/-- Every part outside `ws` is kept. -/
def Frame (ws : List Part) (s t : State) : Prop := ∀ p ∉ ws, p.Kept s t

theorem Frame.refl (ws : List Part) (s : State) : Frame ws s s := by
  intro p _
  cases p <;> rfl

theorem Frame.trans {ws : List Part} {s t u : State} (h : Frame ws s t) (k : Frame ws t u) : Frame ws s u := by
  intro p hp
  have hst := h p hp
  have htu := k p hp
  cases p <;> exact htu.trans hst

theorem Frame.mono {ws vs : List Part} {s t : State} (h : Frame ws s t) (hsub : ws ⊆ vs) : Frame vs s t :=
  fun p hp => h p fun hc => hp (hsub hc)

/-- What a command writes where it has its effect (R23, R25, R28 to R35, R134, R231, R234, R275, R300, R302). -/
def writeSet : Instr → List Part
  | .wcfg _ => [.cfg]
  | .clrstat => [.status]
  | .wkey _ _ => [.key]
  | .keyExpand => [.rk]
  | .maskSubkeys => [.mrk]
  | .maskInit => [.masks, .msbox]
  | .shuffleSboxAccess => [.perm]
  | .hidingInit => [.sched, .dcnt]
  | .dummyOp | .addRoundKey _ | .invShiftRows | .invByteSub | .invMixCols => [.dcnt]
  | .decrypt => [.rk, .mrk, .masks, .msbox, .perm, .sched, .dcnt]
  | .txByte _ | .rxByte => [.xcvr]
  | .nop | .rdstat | .wdata _ _ | .rdata _ | .rcfg | .ffmul _ _ | .parity _ | .rotrRow _ _ | .prngSeed | .prngNext
  | .maj3 _ | .loadState | .storeState | .invMaskState | .invRemaskState | .invUnmaskState | .rdMsbox _ => []

/-- A seeding writes PRNG and the environment only (R183). -/
theorem seeded_keeps (s : State) (e : Env) (x : Byte) (ws : List Part) : Frame ws s ((s.setEnv e).setPrng x) := by
  intro p _
  cases p <;> rfl

theorem drawnMasks_keeps (s : State) : Frame [.masks, .msbox] s s.drawnMasks := by
  intro p hp
  rw [drawnMasks_frame]
  cases p <;> simp_all [Part.Kept]

theorem drawnSchedule_keeps (s : State) : Frame [.sched, .dcnt] s s.drawnSchedule := by
  intro p hp
  rw [drawnSchedule_frame]
  cases p <;> simp_all [Part.Kept]

theorem dummyOperation_keeps (s : State) : (dummyOperation s).Ensures (Frame [.dcnt] s) := by
  obtain ⟨d, -, n, -, h⟩ | h | h := dummyOperation_cases s <;> rw [h]
  · refine ensures_done.2 fun p hp => ?_
    cases p <;> simp_all [Part.Kept]
  · exact ensures_raised _ _
  · exact ensures_stopped _

theorem dummyPrefix_keeps (linear : Bool) (s : State) : (dummyPrefix linear s).Ensures (Frame [.dcnt] s) := by
  unfold dummyPrefix
  split
  · exact dummyOperation_keeps s
  · exact ensures_done.2 (Frame.refl _ s)

theorem setState_keeps (s : State) (m : StateMatrix) (ws : List Part) : Frame ws s (s.setState m) := by
  intro p _
  cases p <;> rfl

theorem setData_keeps (s : State) (d : Block) (ws : List Part) : Frame ws s (s.setData d) := by
  intro p _
  cases p <;> rfl

theorem layer_keeps (linear : Bool) (es : State → List Element) (f : State → StateMatrix) (s : State) :
    (layer linear es f s).Ensures (Frame [.dcnt] s) := by
  refine ensures_andThen (dummyPrefix_keeps linear s) fun u hu => ensures_reading _ _ (ensures_done.2 ?_)
  exact hu.trans (setState_keeps u _ _)

/-- A line of the micro-program writes what its command writes (R275). -/
theorem perform_keeps (op : MicroOp) (s : State) : (perform op s).Ensures (Frame (writeSet op.toInstr) s) := by
  cases op <;> simp only [perform, MicroOp.toInstr, writeSet]
  case addRoundKey i => rw [addRoundKey_eq_layer]; exact layer_keeps _ _ _ s
  case invShiftRows => rw [invShiftRows_eq_layer]; exact layer_keeps _ _ _ s
  case invByteSub => rw [invByteSub_eq_layer]; exact layer_keeps _ _ _ s
  case invMixCols => rw [invMixCols_eq_layer]; exact layer_keeps _ _ _ s
  case maskInit => exact ensures_seeding s fun e x => ensures_done.2 ((seeded_keeps s e x _).trans (drawnMasks_keeps _))
  case hidingInit =>
    exact ensures_seeding s fun e x => ensures_done.2 ((seeded_keeps s e x _).trans (drawnSchedule_keeps _))
  case loadState | invMaskState | invRemaskState | invUnmaskState =>
    exact ensures_reading _ s (ensures_done.2 (setState_keeps s _ _))
  case storeState => exact ensures_reading _ s (ensures_done.2 (setData_keeps s _ _))
  case maskSubkeys =>
    refine ensures_reading _ s (ensures_done.2 fun p hp => ?_)
    cases p <;> simp_all [Part.Kept]
  case keyExpand | shuffleSboxAccess =>
    refine ensures_done.2 fun p hp => ?_
    cases p <;> simp_all [Part.Kept]

theorem performAll_keeps_decrypt_frame (ops : List MicroOp) (s : State) :
    (performAll ops s).Ensures (Frame (writeSet .decrypt) s) := fun _ =>
  performAll_keeps (P := Frame (writeSet .decrypt) s)
    (fun op u t hu ht => hu.trans ((perform_keeps op u t ht).mono
      (by cases op <;> simp [MicroOp.toInstr, writeSet]))) (Frame.refl _ s)

theorem commandEffect_keeps (i : Instr) (s : State) : (commandEffect i s).Ensures (Frame (writeSet i) s) := by
  cases i <;> simp only [commandEffect]
  case keyExpand | loadState | storeState | invShiftRows | invByteSub | invMixCols | maskInit | maskSubkeys
      | invMaskState | invRemaskState | invUnmaskState | hidingInit | shuffleSboxAccess =>
    exact fun t ht => (perform_keeps _ s t ht :)
  case addRoundKey a => exact ensures_operand a s fun i => perform_keeps (.addRoundKey i) s
  case decrypt => exact performAll_keeps_decrypt_frame _ s
  case dummyOp => exact dummyOperation_keeps s
  case wkey a b =>
    refine ensures_operand a s fun i => ensures_done.2 fun p hp => ?_
    cases p <;> simp_all [Part.Kept, writeSet]
  case wdata a b => exact ensures_operand a s fun i => ensures_done.2 fun p _ => by cases p <;> rfl
  case rdata a =>
    exact ensures_operand a s fun i => ensures_reading _ s (ensures_done.2 fun p _ => by cases p <;> rfl)
  case rotrRow a b =>
    exact ensures_operand a s fun _ => ensures_operand b s fun _ =>
      ensures_reading _ s (ensures_done.2 (setState_keeps s _ _))
  case rdMsbox a => exact ensures_reading _ s (ensures_done.2 fun p _ => by cases p <;> rfl)
  case prngSeed => exact ensures_seeding s fun e x => ensures_done.2 (seeded_keeps s e x _)
  case wcfg | clrstat | txByte | rxByte =>
    refine ensures_done.2 fun p hp => ?_
    cases p <;> simp_all [Part.Kept, writeSet, State.clearErrors]
  case nop | rdstat | rcfg | ffmul | parity | prngNext | maj3 =>
    exact ensures_done.2 fun p _ => by cases p <;> rfl

/-- A raise keeps every part but STATUS (R380). -/
theorem raise_keeps (s : State) (env : Env) (e : CmdError) : Frame [.status] s ((s.setEnv env).raise e) := by
  intro p hp
  cases p <;> simp_all [Part.Kept]

/-- A part other than STATUS that a command does not write is kept by it, whether it raises or not. -/
theorem exec_keeps {i : Instr} {s t : State} (h : exec i s = .next t) {p : Part} (hp : p ∉ writeSet i)
    (hs : p ≠ .status) : p.Kept s t := by
  obtain hd | ⟨e, env, rfl⟩ := exec_next_cases h
  · exact commandEffect_keeps i s t hd p hp
  · exact raise_keeps s env e p (by simpa using hs)

/-- Only CLRSTAT clears a STATUS bit (R23): another command keeps STATUS, or raises and sets a bit of it. -/
theorem exec_status_mono {i : Instr} {s t : State} (h : exec i s = .next t) (hi : i ≠ .clrstat) (k : Nat)
    (hk : s.status.getLsbD k = true) : t.status.getLsbD k = true := by
  obtain hs | ⟨e, ht⟩ := errorsArePrecise i s t h hi
  · rwa [hs]
  · rw [ht]; simp [hk]

/-- Settles O52: each part's writers are the commands whose write set has it. -/
theorem onlyNamedCommandsWrite : Obligations.OnlyNamedCommandsWrite := by
  intro i s t h
  have hkeeps : ∀ p : Part, p ≠ .status → p ∉ writeSet i → p.Kept s t := fun p hs hp => exec_keeps h hp hs
  refine ⟨hkeeps .params nofun ?_, fun hi => hkeeps .cfg nofun ?_, fun hi => hkeeps .key nofun ?_,
    exec_status_mono h, fun hi hd => hkeeps .rk nofun ?_, fun hi hd => hkeeps .mrk nofun ?_,
    fun hi hd => ⟨hkeeps .masks nofun ?_, hkeeps .msbox nofun ?_⟩, fun hi hd => hkeeps .perm nofun ?_,
    fun hi hd => hkeeps .sched nofun ?_, fun hi hd => hkeeps .xcvr nofun ?_⟩ <;>
  cases i <;> simp_all [writeSet]

end Sys2Proof.Machine
end

section
/-! SUPPORT. O56: the agents' moves in one form (R389), and the ranges of R22, R23, R35, R42 and R45 kept by every command
and every move. -/

namespace Sys2Proof.Machine

/-! ### The transceiver's counters -/

/-- inputBitCounter is at most 9 and TXIDX at most 10 (R42, R45). -/
structure Xcvr.InRange (x : Xcvr) : Prop where
  counter_le : x.inputBitCounter ≤ 9
  txIdx_le : x.txIdx ≤ 10

namespace Xcvr.InRange

variable {x : Xcvr}

theorem txStart (h : x.InRange) (p : Params) : (txStart p x).InRange := ⟨h.counter_le, Nat.zero_le _⟩

theorem rxStart (h : x.InRange) : (rxStart x).InRange := ⟨Nat.zero_le _, h.txIdx_le⟩

theorem txBitStep (h : x.InRange) (p : Params) : (txBitStep p x).InRange := by
  unfold Machine.txBitStep
  split
  next hlt => exact ⟨h.counter_le, hlt⟩
  next => exact ⟨h.counter_le, h.txIdx_le⟩

theorem txCheckStep (h : x.InRange) (p : Params) : (txCheckStep p x).InRange := by
  unfold Machine.txCheckStep
  split
  · exact ⟨h.counter_le, h.txIdx_le⟩
  · exact h.txStart p

theorem pinChangeHandler (h : x.InRange) (p : Params) : (pinChangeHandler p x).InRange := by
  unfold Machine.pinChangeHandler
  split
  · exact ⟨Nat.zero_le _, h.txIdx_le⟩
  · exact h

theorem pinChangeAct (h : x.InRange) (p : Params) : (pinChangeAct p x).InRange := by
  have hy : ({ x with linePrev := x.line } : Xcvr).InRange := ⟨h.counter_le, h.txIdx_le⟩
  unfold Machine.pinChangeAct
  dsimp only
  split
  · exact hy.pinChangeHandler p
  · split <;> exact ⟨h.counter_le, h.txIdx_le⟩

theorem rxRetime (h : x.InRange) (p : Params) : (rxRetime p x).InRange := by
  unfold Machine.rxRetime
  split <;> exact ⟨h.counter_le, h.txIdx_le⟩

theorem parityCheck (h : x.InRange) (v : Bool) : (parityCheck v x).InRange := by
  unfold Machine.parityCheck
  split <;> exact ⟨Nat.le_refl 9, h.txIdx_le⟩

theorem rxBit (h : x.InRange) (v : Bool) : (rxBit v x).InRange := by
  unfold Machine.rxBit
  split
  next hle => exact ⟨Nat.le_trans (Nat.succ_le_succ hle) (by decide), h.txIdx_le⟩
  next =>
    split
    · exact h.parityCheck v
    · exact h

end Xcvr.InRange

/-! ### The agents' moves -/

/-- What a move of the foreground, the detector, the timer or the terminal can do (R15): the transceiver's elements, RES
and the environment change, and the transceiver's counters stay in their ranges. -/
def State.AgentMove (s t : State) : Prop :=
  ∃ e r x, t = ((s.setEnv e).setRes r).setXcvr x ∧ (s.xcvr.InRange → x.InRange)

namespace State.AgentMove

variable {s t u : State}

theorem refl (s : State) : s.AgentMove s := ⟨s.env, s.res, s.xcvr, rfl, id⟩

theorem trans (h : s.AgentMove t) (k : t.AgentMove u) : s.AgentMove u := by
  obtain ⟨e, r, x, rfl, hx⟩ := h
  obtain ⟨e', r', x', rfl, hx'⟩ := k
  exact ⟨e', r', x', rfl, fun hs => hx' (hx hs)⟩

theorem params (h : s.AgentMove t) : t.params = s.params := by
  obtain ⟨e, r, x, rfl, -⟩ := h
  rfl

theorem setEnv (s : State) (e : Env) : s.AgentMove (s.setEnv e) := ⟨e, s.res, s.xcvr, rfl, id⟩

theorem setXcvr {x : Xcvr} (h : s.xcvr.InRange → x.InRange) : s.AgentMove (s.setXcvr x) := ⟨s.env, s.res, x, rfl, h⟩

theorem afterSample (s : State) : s.AgentMove s.afterSample := by
  unfold State.afterSample
  split
  · exact refl s
  · exact setEnv s _

end State.AgentMove

open State.AgentMove

/-- A sample moves the environment only. -/
@[simp] theorem State.afterSample_xcvr (s : State) : s.afterSample.xcvr = s.xcvr := by
  unfold State.afterSample; split <;> rfl

theorem foregroundStep_agentMove (s : State) : s.AgentMove (foregroundStep s) := by
  unfold foregroundStep foregroundAct
  split
  · split
    · exact refl s
    · exact setXcvr fun h => h.txBitStep _
    · exact setXcvr fun h => h.txCheckStep _
    · exact ⟨s.env, s.xcvr.inputByte, _, rfl, fun h => ⟨h.counter_le, h.txIdx_le⟩⟩
  · exact refl s

theorem pinChangeStep_agentMove (s : State) : s.AgentMove (pinChangeStep s) := by
  unfold pinChangeStep
  split
  · exact setXcvr fun h => h.pinChangeAct _
  · exact refl s

theorem pendingEdgeStep_agentMove (s : State) : s.AgentMove (pendingEdgeStep s) := by
  unfold pendingEdgeStep
  split
  · refine setXcvr fun h => ?_
    have hclear : ({ s.xcvr with pcPend := false } : Xcvr).InRange := ⟨h.counter_le, h.txIdx_le⟩
    exact hclear.pinChangeHandler _
  · exact refl s

theorem errorSample_agentMove (s : State) : s.AgentMove (errorSample s) :=
  (afterSample s).trans (setXcvr fun h => by rw [State.afterSample_xcvr] at h; exact ⟨h.counter_le, h.txIdx_le⟩)

theorem rxSample_agentMove (s : State) : s.AgentMove (rxSample s) :=
  (((afterSample s).trans (afterSample _)).trans (afterSample _)).trans
    (setXcvr fun h => by simp only [State.afterSample_xcvr] at h; exact (h.rxRetime _).rxBit _)

theorem timerHandler_agentMove (s : State) : s.AgentMove (timerHandler s) := by
  unfold timerHandler
  split_ifs
  · exact errorSample_agentMove s
  · exact setXcvr fun h => ⟨Nat.zero_le _, h.txIdx_le⟩
  · exact setXcvr fun h => ⟨h.counter_le, h.txIdx_le⟩
  · exact setXcvr fun h => ⟨h.counter_le, h.txIdx_le⟩
  · exact rxSample_agentMove s

theorem timerAct_agentMove (s : State) : s.AgentMove (timerAct s) := by
  by_cases hm : s.xcvr.tcnt + 1 = s.xcvr.ocr
  · have hclear : s.AgentMove (s.setXcvr { s.xcvr with tcnt := 0 }) := setXcvr fun h => ⟨h.counter_le, h.txIdx_le⟩
    rw [timerAct_matches hm]
    exact hclear.trans (timerHandler_agentMove _)
  · rw [timerAct_counts hm]
    exact setXcvr fun h => ⟨h.counter_le, h.txIdx_le⟩

theorem timerStep_agentMove (s : State) : s.AgentMove (timerStep s) := by
  unfold timerStep
  split
  · exact timerAct_agentMove s
  · exact refl s

theorem terminalStep_agentMove (level : Bool) (s : State) : s.AgentMove (terminalStep level s) :=
  setXcvr fun h => ⟨h.counter_le, h.txIdx_le⟩

/-! ### What a step can do -/

/-- The host performs a command, raises IllegalCommand, or only moves its queue (R110). -/
theorem hostStep_effect (s : State) :
    (∃ i e, hostStep s = exec i (s.setEnv e)) ∨ (∃ e, hostStep s = .next ((s.setEnv e).raise .illegalCommand)) ∨
      ∃ t, hostStep s = .next t ∧ s.AgentMove t := by
  obtain ⟨w, e, h, -⟩ | ⟨e, h, -⟩ := hostStep_cases s
  · obtain ⟨i, -, hi⟩ | hi := issue_cases w (s.setEnv e)
    · exact .inl ⟨i, e, h.trans hi⟩
    · exact .inr (.inl ⟨e, h.trans hi⟩)
  · exact .inr (.inr ⟨_, h, setEnv s e⟩)

/-- Every step, prompt or not, is one agent's move on the state with its environment changed. -/
theorem step_eq_move (s : State) : ∃ a e, step s = move a (s.setEnv e) := by
  obtain h | ⟨-, h⟩ := step_cases s
  · exact h
  · rw [h]
    obtain ⟨level, e, hp, -⟩ | ⟨hf, hp⟩ | ⟨-, ⟨he, hp⟩ | ⟨-, hp⟩ | ⟨-, hp⟩ | hp⟩ := promptStep_cases s <;> rw [hp]
    · exact ⟨.terminal level, e, rfl⟩
    · exact ⟨.foreground, s.env, congrArg Host.Outcome.next (if_pos hf).symm⟩
    · exact ⟨.pinChange, s.env, congrArg Host.Outcome.next (if_pos he).symm⟩
    · exact ⟨.pendingEdge, s.env, rfl⟩
    · exact ⟨.host, s.env, rfl⟩
    · exact ⟨.timer, s.env.clockUnit, rfl⟩

/-- Every step performs a command, raises IllegalCommand, or is a move that leaves the AES engine's elements but RES. -/
theorem step_effect (s : State) :
    (∃ i e, step s = exec i (s.setEnv e)) ∨ (∃ e, step s = .next ((s.setEnv e).raise .illegalCommand)) ∨
      ∃ t, step s = .next t ∧ s.AgentMove t := by
  obtain ⟨a, e, h⟩ := step_eq_move s
  rw [h]
  cases a
  case host => exact hostStep_effect (s.setEnv e)
  case foreground => exact .inr (.inr ⟨_, rfl, (setEnv s e).trans (foregroundStep_agentMove _)⟩)
  case pinChange => exact .inr (.inr ⟨_, rfl, (setEnv s e).trans (pinChangeStep_agentMove _)⟩)
  case pendingEdge => exact .inr (.inr ⟨_, rfl, (setEnv s e).trans (pendingEdgeStep_agentMove _)⟩)
  case timer => exact .inr (.inr ⟨_, rfl, (setEnv s e).trans (timerStep_agentMove _)⟩)
  case terminal level => exact .inr (.inr ⟨_, rfl, (setEnv s e).trans (terminalStep_agentMove level _)⟩)

/-! ### The ranges -/

theorem State.InRange.xcvr_inRange {s : State} (h : s.InRange) : s.xcvr.InRange := ⟨h.counter_le, h.txIdx_le⟩

theorem State.InRange.setXcvr {s : State} (h : s.InRange) {x : Xcvr} (hx : x.InRange) : (s.setXcvr x).InRange :=
  { h with counter_le := hx.counter_le, txIdx_le := hx.txIdx_le }

theorem State.InRange.agentMove {s t : State} (h : s.InRange) (hm : s.AgentMove t) : t.InRange := by
  obtain ⟨e, r, x, rfl, hx⟩ := hm
  have hx' : x.InRange := hx h.xcvr_inRange
  exact { h with counter_le := hx'.counter_le, txIdx_le := hx'.txIdx_le }

theorem State.InRange.setEnv {s : State} (h : s.InRange) (e : Env) : (s.setEnv e).InRange := { h with }

theorem State.InRange.setCfg {s : State} (h : s.InRange) (b : Byte) : (s.setCfg (cfgValue b)).InRange where
  cfg_reserved := by
    have : (b &&& 0x0F).toNat ≤ (0x0F : Byte).toNat := by rw [BitVec.toNat_and]; exact Nat.and_le_right
    exact Nat.lt_succ_of_le this
  status_reserved := h.status_reserved
  dcnt_le := h.dcnt_le
  counter_le := h.counter_le
  txIdx_le := h.txIdx_le

/-- A raise sets one of STATUS bits 3:0 (R380). -/
theorem State.InRange.raise {s : State} (h : s.InRange) (e : CmdError) : (s.raise e).InRange where
  cfg_reserved := h.cfg_reserved
  status_reserved := by
    have he : e.statusBit.toNat < 2 ^ 4 := by cases e <;> decide
    rw [State.raise_status, BitVec.toNat_or]
    exact Nat.or_lt_two_pow h.status_reserved he
  dcnt_le := h.dcnt_le
  counter_le := h.counter_le
  txIdx_le := h.txIdx_le

/-- A change that keeps CFG, STATUS and the transceiver leaves DCNT's range to be shown. -/
theorem State.InRange.of_frame {ws : List Part} {s t : State} (h : s.InRange) (hf : Frame ws s t)
    (hws : .cfg ∉ ws ∧ .status ∉ ws ∧ .xcvr ∉ ws) (hd : t.dcnt ≤ 40) : t.InRange := by
  have hcfg : t.cfg = s.cfg := hf .cfg hws.1
  have hstatus : t.status = s.status := hf .status hws.2.1
  have hxcvr : t.xcvr = s.xcvr := hf .xcvr hws.2.2
  exact ⟨hcfg ▸ h.cfg_reserved, hstatus ▸ h.status_reserved, hd, hxcvr ▸ h.counter_le, hxcvr ▸ h.txIdx_le⟩

/-! ### DCNT -/

theorem dummyOperation_dcnt_le {s : State} (h : s.dcnt ≤ 40) : (dummyOperation s).Ensures (·.dcnt ≤ 40) := by
  obtain ⟨d, -, n, hd, he⟩ | he | he := dummyOperation_cases s <;> rw [he]
  · exact ensures_done.2 (show d ≤ 40 by omega)
  · exact ensures_raised _ _
  · exact ensures_stopped _

theorem layer_dcnt_le (linear : Bool) (es : State → List Element) (f : State → StateMatrix) {s : State}
    (h : s.dcnt ≤ 40) : (layer linear es f s).Ensures (·.dcnt ≤ 40) := by
  refine ensures_andThen (Q := (·.dcnt ≤ 40)) ?_ fun u hu => ensures_reading _ _ (ensures_done.2 hu)
  unfold dummyPrefix
  split
  · exact dummyOperation_dcnt_le h
  · exact ensures_done.2 h

theorem drawnSchedule_dcnt (s : State) : s.drawnSchedule.dcnt = 0 := by rw [drawnSchedule_frame]

/-- DCNT stays at most 40: HIDING_INIT clears it, a dummy op advances it below 40 only (R35, R231, R234). -/
theorem perform_dcnt_le (op : MicroOp) {s : State} (h : s.dcnt ≤ 40) : (perform op s).Ensures (·.dcnt ≤ 40) := by
  have hkept : .dcnt ∉ writeSet op.toInstr → (perform op s).Ensures (·.dcnt ≤ 40) := by
    intro hop t ht
    have hd : t.dcnt = s.dcnt := perform_keeps op s t ht .dcnt hop
    exact hd ▸ h
  cases op
  case addRoundKey i => rw [perform, addRoundKey_eq_layer]; exact layer_dcnt_le _ _ _ h
  case invShiftRows => rw [perform, invShiftRows_eq_layer]; exact layer_dcnt_le _ _ _ h
  case invByteSub => rw [perform, invByteSub_eq_layer]; exact layer_dcnt_le _ _ _ h
  case invMixCols => rw [perform, invMixCols_eq_layer]; exact layer_dcnt_le _ _ _ h
  case hidingInit =>
    rw [perform, hidingInit]
    exact ensures_seeding s fun e x => ensures_done.2 ((drawnSchedule_dcnt _).trans_le (Nat.zero_le 40))
  all_goals exact hkept (by simp [MicroOp.toInstr, writeSet])

theorem performAll_dcnt_le (ops : List MicroOp) {s : State} (h : s.dcnt ≤ 40) :
    (performAll ops s).Ensures (·.dcnt ≤ 40) := fun _ =>
  performAll_keeps (P := (·.dcnt ≤ 40)) (fun op _ t hu ht => perform_dcnt_le op hu t ht) h

theorem commandEffect_dcnt_le (i : Instr) {s : State} (h : s.dcnt ≤ 40) :
    (commandEffect i s).Ensures (·.dcnt ≤ 40) := by
  have hkept : .dcnt ∉ writeSet i → (commandEffect i s).Ensures (·.dcnt ≤ 40) := by
    intro hi t ht
    have hd : t.dcnt = s.dcnt := commandEffect_keeps i s t ht .dcnt hi
    exact hd ▸ h
  cases i
  case addRoundKey a => exact ensures_operand (P := (·.dcnt ≤ 40)) a s fun i => perform_dcnt_le (.addRoundKey i) h
  case invShiftRows => exact perform_dcnt_le .invShiftRows h
  case invByteSub => exact perform_dcnt_le .invByteSub h
  case invMixCols => exact perform_dcnt_le .invMixCols h
  case hidingInit => exact perform_dcnt_le .hidingInit h
  case dummyOp => exact dummyOperation_dcnt_le h
  case decrypt => exact performAll_dcnt_le _ h
  all_goals exact hkept (by simp [writeSet])

/-! ### Every step -/

/-- A command's effect keeps the ranges: four commands write CFG, STATUS or the transceiver, the others may write DCNT. -/
theorem commandEffect_keeps_inRange (i : Instr) {s : State} (h : s.InRange) :
    (commandEffect i s).Ensures State.InRange := by
  have hkept : (.cfg ∉ writeSet i ∧ .status ∉ writeSet i ∧ .xcvr ∉ writeSet i) →
      (commandEffect i s).Ensures State.InRange := fun hws t ht =>
    h.of_frame (commandEffect_keeps i s t ht) hws (commandEffect_dcnt_le i h.dcnt_le t ht)
  cases i
  case wcfg b => exact ensures_done.2 (h.setCfg b)
  case clrstat => exact ensures_done.2 { h with status_reserved := show (0 : Byte).toNat < 16 by decide }
  case txByte a =>
    have hload : ({ s.xcvr with txb := a } : Xcvr).InRange := ⟨h.counter_le, h.txIdx_le⟩
    exact ensures_done.2 (h.setXcvr (hload.txStart _))
  case rxByte => exact ensures_done.2 (h.setXcvr h.xcvr_inRange.rxStart)
  all_goals exact hkept (by simp [writeSet])

theorem exec_keeps_inRange {i : Instr} {s t : State} (h : s.InRange) (ht : exec i s = .next t) : t.InRange := by
  obtain hd | ⟨e, env, rfl⟩ := exec_next_cases ht
  · exact commandEffect_keeps_inRange i h t hd
  · exact (h.setEnv env).raise e

theorem exec_keeps_params {i : Instr} {s t : State} (ht : exec i s = .next t) : t.params = s.params :=
  exec_keeps ht (p := .params) (by cases i <;> simp [writeSet]) nofun

/-- Settles O56: a step performs a command, raises, or moves an agent, and each keeps the ranges and the parameters. -/
theorem everyStepKeepsTheRanges : Obligations.EveryStepKeepsTheRanges := by
  intro s t hs ht
  obtain ⟨i, e, h⟩ | ⟨e, h⟩ | ⟨u, h, hu⟩ := step_effect s <;> rw [h] at ht
  · exact ⟨exec_keeps_inRange (hs.setEnv e) ht, (exec_keeps_params ht :)⟩
  · cases ht
    exact ⟨(hs.setEnv e).raise _, rfl⟩
  · cases ht
    exact ⟨hs.agentMove hu, hu.params⟩

end Sys2Proof.Machine
end

section
/-! SUPPORT. O59: with strictReads off no effect stops, so every command and every step answers a next state (R36; log
entry 2). -/

namespace Sys2Proof.Machine

/-! ### Effects that do not stop -/

/-- The command has its effect or raises. -/
def Effect.NeverStops (r : Effect) : Prop := ∀ f, r ≠ .stopped f

@[simp] theorem neverStops_done (t : State) : (Effect.done t).NeverStops := nofun

@[simp] theorem neverStops_raised (e : CmdError) (env : Env) : (Effect.raised e env).NeverStops := nofun

theorem neverStops_andThen {Q : State → Prop} {r : Effect} {k : State → Effect} (hr : r.NeverStops)
    (hq : r.Ensures Q) (hk : ∀ u, Q u → (k u).NeverStops) : (r.andThen k).NeverStops := by
  cases r with
  | done u => exact hk u (hq u rfl)
  | raised e env => exact neverStops_raised e env
  | stopped f => exact absurd rfl (hr f)

theorem neverStops_operand {n : Nat} (a : Byte) (s : State) {k : Fin n → Effect} (h : ∀ i, (k i).NeverStops) :
    (operand n a s k).NeverStops := by
  unfold operand
  split
  · exact h _
  · exact neverStops_raised _ _

theorem neverStops_seeding (s : State) {k : State → Effect} (h : ∀ e x, (k ((s.setEnv e).setPrng x)).NeverStops) :
    (seeding s k).NeverStops := by
  obtain ⟨n, -, ⟨x, hx⟩ | hx⟩ := seeding_cases s k <;> rw [hx]
  · exact h _ x
  · exact neverStops_raised _ _

/-- An effect that does not stop settles to a next state. -/
theorem settle_answers {r : Effect} (h : r.NeverStops) (s : State) : ∃ t, settle s r = .next t := by
  cases r with
  | done t => exact ⟨t, rfl⟩
  | raised e env => exact ⟨_, rfl⟩
  | stopped f => exact absurd rfl (h f)

/-! ### Reads with strictReads off -/

section

variable {s : State} (hs : s.params.strictReads = false)

include hs

/-- With strictReads off a guarded read goes on (R36; log entry 2). -/
theorem reading_of_not_strict (es : List Element) (k : Effect) : reading es s k = k :=
  reading_of_readable (fun e _ => readable_of_not_strict hs e) k

theorem dummyOperation_neverStops : (dummyOperation s).NeverStops := by
  unfold dummyOperation
  split_ifs
  · rw [reading_of_not_strict hs]; exact neverStops_done _
  · exact neverStops_raised _ _
  · exact neverStops_done _

theorem layer_neverStops (linear : Bool) (es : State → List Element) (f : State → StateMatrix) :
    (layer linear es f s).NeverStops := by
  have hprefix : (dummyPrefix linear s).NeverStops := by
    unfold dummyPrefix
    split
    · exact dummyOperation_neverStops hs
    · exact neverStops_done s
  refine neverStops_andThen hprefix (dummyPrefix_keeps linear s) fun u hu => ?_
  have hp : u.params = s.params := hu .params (by decide)
  rw [reading_of_not_strict (hp ▸ hs)]
  exact neverStops_done _

theorem perform_neverStops (op : MicroOp) : (perform op s).NeverStops := by
  cases op
  case addRoundKey i => rw [perform, addRoundKey_eq_layer]; exact layer_neverStops hs _ _ _
  case invShiftRows => rw [perform, invShiftRows_eq_layer]; exact layer_neverStops hs _ _ _
  case invByteSub => rw [perform, invByteSub_eq_layer]; exact layer_neverStops hs _ _ _
  case invMixCols => rw [perform, invMixCols_eq_layer]; exact layer_neverStops hs _ _ _
  case maskInit => rw [perform, maskInit]; exact neverStops_seeding s fun _ _ => neverStops_done _
  case hidingInit => rw [perform, hidingInit]; exact neverStops_seeding s fun _ _ => neverStops_done _
  case keyExpand | shuffleSboxAccess => exact neverStops_done _
  all_goals
    simp only [perform, loadState, storeState, maskSubkeys, invMaskState, invRemaskState, invUnmaskState,
      reading_of_not_strict hs, neverStops_done]

omit hs in
theorem performAll_neverStops (ops : List MicroOp) (hs : s.params.strictReads = false) :
    (performAll ops s).NeverStops := by
  induction ops generalizing s with
  | nil => exact neverStops_done s
  | cons op rest ih =>
    refine neverStops_andThen (perform_neverStops hs op) (perform_keeps op s) fun u hu => ih ?_
    have hp : u.params = s.params := hu .params (by cases op <;> simp [MicroOp.toInstr, writeSet])
    rw [hp, hs]

theorem commandEffect_neverStops (i : Instr) : (commandEffect i s).NeverStops := by
  cases i <;> simp only [commandEffect, reading_of_not_strict hs, neverStops_done, perform_neverStops hs]
  case wkey a b | wdata a b | rdata a => exact neverStops_operand a s fun _ => neverStops_done _
  case rotrRow a b => exact neverStops_operand a s fun _ => neverStops_operand b s fun _ => neverStops_done _
  case addRoundKey a => exact neverStops_operand a s fun i => perform_neverStops hs (.addRoundKey i)
  case prngSeed => exact neverStops_seeding s fun _ _ => neverStops_done _
  case decrypt => exact performAll_neverStops _ hs
  case dummyOp => exact dummyOperation_neverStops hs

theorem exec_answers (i : Instr) : ∃ t, exec i s = .next t ∧ t.params = s.params := by
  obtain ⟨t, ht⟩ := settle_answers (commandEffect_neverStops hs i) s
  have hexec : exec i s = .next t := (exec_eq_settle i s).trans ht
  exact ⟨t, hexec, exec_keeps_params hexec⟩

theorem step_answers : ∃ t, step s = .next t ∧ t.params = s.params := by
  obtain ⟨i, e, h⟩ | ⟨e, h⟩ | ⟨t, h, ht⟩ := step_effect s
  · rw [h]
    exact exec_answers (s := s.setEnv e) hs i
  · exact ⟨_, h, rfl⟩
  · exact ⟨t, h, ht.params⟩

end

/-- Settles O59: a guarded read goes on, and nothing else stops a command or a step. -/
theorem nothingStopsWithStrictReadsOff : Obligations.NothingStopsWithStrictReadsOff :=
  ⟨rfl, fun _ hs => ⟨exec_answers hs, step_answers hs⟩⟩

end Sys2Proof.Machine
end

section
/-! SUPPORT. O53: KEY, RK and MRK blanked, and with them STATE and DATA, where ADD_ROUND_KEY and STORE_STATE carry key
material; an effect is had, raises or stops alike, and leaves every other element alike (R25, R395). -/

namespace Sys2Proof.Machine

/-- The state with the elements that key material may reach blanked: KEY, RK and MRK, and DATA and STATE (R25). -/
def State.blank (s : State) : State :=
  { s with
    key := Vector.replicate 16 0
    data := Vector.replicate 16 0
    state := Vector.replicate 4 (Vector.replicate 4 0)
    rk := Vector.replicate Config.nRoundKeys (Vector.replicate 16 0)
    mrk := Vector.replicate Config.nRoundKeys (Vector.replicate 16 0) }

/-- The effect with the state it leaves blanked. -/
def Effect.blank : Effect → Effect
  | .done s => .done s.blank
  | .raised e env => .raised e env
  | .stopped f => .stopped f

/-- An effect that does not depend on what is blanked, as far as it shows outside it. -/
def KeyBlind (k : State → Effect) : Prop := ∀ s, (k s.blank).blank = (k s).blank

theorem readable_congr {s t : State} (hw : t.written = s.written) (hp : t.params = s.params) (e : Element) :
    t.readable e = s.readable e := by
  cases e <;> simp only [State.readable, State.holds, hw, hp]

/-- A guarded read depends on the marks and strictReads only. -/
theorem reading_congr {s t : State} (hw : t.written = s.written) (hp : t.params = s.params) (es : List Element)
    (k : Effect) : reading es t k = reading es s k := by
  have hreadable : t.readable = s.readable := funext (readable_congr hw hp)
  simp only [reading, hreadable]

/-! ### Rules -/

theorem blank_reading {es es' : List Element} {s : State} {k k' : Effect} (hes : es' = es) (hk : k'.blank = k.blank) :
    (reading es' s.blank k').blank = (reading es s k).blank := by
  subst hes
  rw [reading_congr (s := s) (t := s.blank) rfl rfl]
  unfold reading
  split
  · rfl
  · exact hk

theorem blank_operand {n : Nat} {a : Byte} {s : State} {k k' : Fin n → Effect}
    (hk : ∀ i, (k' i).blank = (k i).blank) :
    (operand n a s.blank k').blank = (operand n a s k).blank := by
  unfold operand
  split
  · exact hk _
  · rfl

/-- What follows need only know the blanked state. -/
theorem blank_andThen {k : State → Effect} (hk : KeyBlind k) {r r' : Effect} (hr : r'.blank = r.blank) :
    (r'.andThen k).blank = (r.andThen k).blank := by
  have hforget : ∀ r : Effect, (r.blank.andThen k).blank = (r.andThen k).blank := by
    intro r
    cases r with
    | done u => exact hk u
    | raised e env => rfl
    | stopped f => rfl
  rw [← hforget r', hr, hforget]

theorem blank_seeding {s : State} {k : State → Effect} (hk : KeyBlind k) :
    (seeding s.blank k).blank = (seeding s k).blank := by
  unfold seeding
  rw [show s.blank.params = s.params from rfl, show s.blank.env = s.env from rfl]
  cases seedBits s.params.entropyCanFail 8 0x00 s.env with
  | mk o e =>
    cases o with
    | none => rfl
    | some x => exact hk ((s.setEnv e).setPrng x)

theorem dummyOperation_keyBlind : KeyBlind dummyOperation := by
  intro s
  unfold dummyOperation
  rw [show s.blank.dummyOps = s.dummyOps from rfl, show s.blank.dcnt = s.dcnt from rfl]
  split_ifs
  · exact blank_reading rfl rfl
  · rfl
  · rfl

theorem layer_keyBlind (linear : Bool) {es : State → List Element} (hes : ∀ s, es s.blank = es s)
    (f : State → StateMatrix) : KeyBlind (layer linear es f) := by
  intro s
  refine blank_andThen (fun u => ?_) ?_
  · refine blank_reading (hes u) ?_
    rfl
  unfold dummyPrefix
  rw [show s.blank.prefixActive linear = s.prefixActive linear from rfl]
  split
  · exact dummyOperation_keyBlind s
  · rfl

/-- The schedule is drawn from PRNG and CFG. -/
theorem drawnSchedule_blank (s : State) : s.blank.drawnSchedule.blank = s.drawnSchedule.blank := by
  unfold State.drawnSchedule
  dsimp only
  rw [show s.blank.dummyOps = s.dummyOps from rfl]
  split <;> rfl

/-! ### Commands -/

theorem perform_keyBlind (op : MicroOp) : KeyBlind (perform op) := by
  intro s
  cases op <;> simp only [perform]
  case addRoundKey i => simpa only [addRoundKey_eq_layer] using layer_keyBlind true (fun _ => rfl) _ s
  case invShiftRows => simpa only [invShiftRows_eq_layer] using layer_keyBlind true (fun _ => rfl) _ s
  case invByteSub => simpa only [invByteSub_eq_layer] using layer_keyBlind false (fun _ => rfl) _ s
  case invMixCols => simpa only [invMixCols_eq_layer] using layer_keyBlind true (fun _ => rfl) _ s
  case maskInit => exact blank_seeding fun _ => rfl
  case hidingInit => exact blank_seeding fun u => congrArg Effect.done (drawnSchedule_blank u)
  case keyExpand | shuffleSboxAccess => rfl
  all_goals exact blank_reading rfl rfl

theorem performAll_keyBlind (ops : List MicroOp) : KeyBlind (performAll ops) := by
  induction ops with
  | nil => exact fun _ => rfl
  | cons op rest ih => exact fun s => blank_andThen ih (perform_keyBlind op s)

/-- But for RDATA, which answers a byte of DATA, what a command does outside the blanked elements is blind to them. -/
theorem commandEffect_keyBlind (i : Instr) (hi : ∀ a, i ≠ .rdata a) : KeyBlind (commandEffect i) := by
  intro s
  cases i <;> simp only [commandEffect]
  case rdata a => exact absurd rfl (hi a)
  case decrypt => exact performAll_keyBlind s.microProgram s
  case dummyOp => exact dummyOperation_keyBlind s
  case addRoundKey a => exact blank_operand fun i => perform_keyBlind (.addRoundKey i) s
  case rotrRow a b => exact blank_operand fun _ => blank_operand fun _ => blank_reading rfl rfl
  case wkey a b | wdata a b => exact blank_operand fun _ => rfl
  case rdMsbox a => exact blank_reading rfl rfl
  case prngSeed => exact blank_seeding fun _ => rfl
  case keyExpand | loadState | storeState | invShiftRows | invByteSub | invMixCols | maskInit | maskSubkeys
      | invMaskState | invRemaskState | invUnmaskState | hidingInit | shuffleSboxAccess =>
    exact (perform_keyBlind _ s :)
  all_goals rfl

/-- The state with other key material. -/
def State.withKeys (s : State) (k : Block) (rk mrk : Vector Block Config.nRoundKeys) : State :=
  { s with key := k, rk := rk, mrk := mrk }

/-- Other key material leaves a command's effect as it was outside the blanked elements. -/
theorem commandEffect_withKeys (i : Instr) (s : State) (k : Block) (rk mrk : Vector Block Config.nRoundKeys) :
    (commandEffect i (s.withKeys k rk mrk)).blank = (commandEffect i s).blank := by
  by_cases hi : ∀ a, i ≠ .rdata a
  · have hblind := commandEffect_keyBlind i hi
    calc (commandEffect i (s.withKeys k rk mrk)).blank
        = (commandEffect i (s.withKeys k rk mrk).blank).blank := (hblind _).symm
      _ = (commandEffect i s.blank).blank := rfl
      _ = (commandEffect i s).blank := hblind s
  · obtain ⟨a, rfl⟩ : ∃ a, i = .rdata a := by simpa using hi
    simp only [commandEffect, operand, reading_congr (s := s) (t := s.withKeys k rk mrk) rfl rfl]
    split
    · unfold reading
      split <;> rfl
    · rfl

/-- RES and STATUS are not blanked. -/
theorem response_eq_of_blank {s t : State} (h : s.blank = t.blank) : s.res = t.res ∧ s.status = t.status := by
  have hres : s.blank.res = t.blank.res := congrArg State.res h
  have hstatus : s.blank.status = t.blank.status := congrArg State.status h
  exact ⟨hres, hstatus⟩

/-- Effects equal outside the blanked elements settle to the same RES and STATUS. -/
theorem settle_response {s s' t : State} {r r' : Effect} (hr : r'.blank = r.blank) (hs : s'.blank = s.blank)
    (h : settle s r = .next t) : ∃ u, settle s' r' = .next u ∧ u.res = t.res ∧ u.status = t.status := by
  cases r with
  | stopped f => cases h
  | done u =>
    cases h
    cases r' <;> simp only [Effect.blank, reduceCtorEq, Effect.done.injEq] at hr
    exact ⟨_, rfl, response_eq_of_blank hr⟩
  | raised e env =>
    cases h
    cases r' <;> simp only [Effect.blank, reduceCtorEq, Effect.raised.injEq] at hr
    obtain ⟨rfl, rfl⟩ := hr
    obtain ⟨hres, hstatus⟩ := response_eq_of_blank hs
    exact ⟨_, rfl, hres, congrArg (· ||| CmdError.statusBit _) hstatus⟩

/-- Settles O53: the two effects differ in blanked elements only, and RES and STATUS are not among them. -/
theorem noCommandReturnsKeyMaterial : Obligations.NoCommandReturnsKeyMaterial := by
  intro i s t k rk mrk h
  rw [exec_eq_settle] at h
  have hresponse := settle_response (s := s) (s' := s.withKeys k rk mrk)
    (commandEffect_withKeys i s k rk mrk) rfl h
  rwa [← exec_eq_settle] at hresponse

end Sys2Proof.Machine
end

section
/-! SUPPORT. O51: with strictReads on, where a guarded read stops, and the stops of each command that reads an element with
an unspecified reset value (R36, R385; log entry 2). -/

namespace Sys2Proof.Machine

/-! ### Where a read stops -/

/-- A guarded read stops at the first element that is not readable (R36). -/
theorem reading_stops {s : State} {before after : List Element} {e : Element} (k : Effect)
    (hb : ∀ b ∈ before, s.readable b = true) (he : s.readable e = false) :
    reading (before ++ e :: after) s k = .stopped (.unwrittenRead e) := by
  have hnone : before.find? (fun e => !s.readable e) = none := by
    rw [List.find?_eq_none]; intro b hmem; simp [hb b hmem]
  have hfind : (before ++ e :: after).find? (fun e => !s.readable e) = some e := by
    simp [List.find?_append, hnone, he]
  simp only [reading, hfind]

/-- Where some element is not readable, every command that reads these stops at one and the same. -/
theorem exists_reading_stops {s : State} {es : List Element} (h : ∃ e ∈ es, s.readable e = false) :
    ∃ e ∈ es, s.readable e = false ∧ ∀ k, reading es s k = .stopped (.unwrittenRead e) := by
  obtain ⟨e, hmem, he⟩ := h
  cases hf : es.find? (fun e => !s.readable e) with
  | none => exact absurd he (by simpa using List.find?_eq_none.1 hf e hmem)
  | some d =>
    have hd : s.readable d = false := by simpa using List.find?_some hf
    exact ⟨d, List.mem_of_find?_eq_some hf, hd, fun k => by simp only [reading, hf]⟩

/-- A range's number, written as an operand byte, is within the range (R103). -/
theorem operand_indexByte {n : Nat} (hn : n ≤ 256) (i : Fin n) (s : State) (k : Fin n → Effect) :
    operand n (indexByte i) s k = k i := by
  have hi : (indexByte i).toNat = i.val := by
    rw [indexByte, BitVec.toNat_ofNat]
    exact Nat.mod_eq_of_lt (Nat.lt_of_lt_of_le i.isLt hn)
  rw [operand_inRange s k (hi ▸ i.isLt)]
  congr 1
  exact Fin.ext hi

/-- A command whose effect stops answers the fault. -/
theorem exec_faults {i : Instr} {s : State} {f : Fault} (h : commandEffect i s = .stopped f) : exec i s = .fault f := by
  rw [exec_eq_settle, h, settle_stopped]

/-- A dummy op stops at an unwritten SCHED (R234). -/
theorem dummyOperation_stops {s : State} (hd : s.dummyOps = true) (h : s.dcnt < 40) (hr : s.readable .sched = false) :
    dummyOperation s = .stopped (.unwrittenRead .sched) := by
  rw [dummyOperation, if_pos hd, dif_pos (show s.dcnt < Config.nDummy from h)]
  exact reading_stops (before := []) _ nofun hr

/-- A layer stops at SCHED in the dummy op before it, where that is active (R235). -/
theorem layer_stops_in_prefix {s : State} {linear : Bool} (ha : s.prefixActive linear = true) (h : s.dcnt < 40)
    (hr : s.readable .sched = false) (es : State → List Element) (f : State → StateMatrix) :
    layer linear es f s = .stopped (.unwrittenRead .sched) := by
  rw [layer, dummyPrefix, if_pos ha, dummyOperation_stops (dummyOps_of_prefixActive ha) h hr, andThen_stopped]

/-- A layer whose dummy op is ready stops where the layer's own reads do. -/
theorem layer_stops {s : State} {linear : Bool} (hp : s.PrefixReady linear) {es : State → List Element}
    (hes : ∀ d n, es (s.setCounters d n) = es s) {fault : Fault} (h : ∀ k, reading (es s) s k = .stopped fault)
    (f : State → StateMatrix) : layer linear es f s = .stopped fault := by
  rw [layer, dummyPrefix, dummyPrefix_of_ready hp, andThen_done, hes,
    reading_congr (s := s) (State.setCounters_written ..) (State.setCounters_params ..), h]

/-! ### The commands, element by element -/

section

variable {s : State} (hs : s.params.strictReads = true)

include hs

/-- With strictReads on, what can be read is what has been written (R36). -/
theorem readable_of_strict (e : Element) : s.readable e = s.holds e := by
  simp [State.readable, hs]

theorem unwrittenData_faults {i : Fin 16} (h : s.written.data[i] = false) :
    exec (.rdata (indexByte i)) s = .fault (.unwrittenRead (.data i)) ∧
    ∃ j : Fin 16, s.written.data[j] = false ∧ exec .loadState s = .fault (.unwrittenRead (.data j)) ∧
      exec .decrypt s = .fault (.unwrittenRead (.data j)) := by
  have hi : s.readable (.data i) = false := (readable_of_strict hs _).trans h
  have hmem : Element.data i ∈ dataElements := List.mem_map.2 ⟨i, List.mem_finRange i, rfl⟩
  obtain ⟨e, he, hunread, hstop⟩ := exists_reading_stops ⟨_, hmem, hi⟩
  obtain ⟨j, -, rfl⟩ := List.mem_map.1 he
  have hload : ∀ t : State, t.written = s.written → t.params = s.params →
      loadState t = .stopped (.unwrittenRead (.data j)) := fun t hw hp => by
    rw [loadState, reading_congr hw hp, hstop]
  refine ⟨exec_faults ?_, j, (readable_of_strict hs _).symm.trans hunread, exec_faults (hload s rfl rfl), exec_faults ?_⟩
  · rw [commandEffect, operand_indexByte (by decide)]
    exact reading_stops (before := []) _ nofun hi
  · simp only [commandEffect, microProgram_eq, List.cons_append, performAll_cons, perform, expandKey, andThen_done,
      hload (s.setRk (keyExpand s.key)) rfl rfl, andThen_stopped]

theorem unwrittenState_faults (h : s.written.state = false) :
    (∀ (r : Fin 4) (k : Fin 5), exec (.rotrRow (indexByte r) (indexByte k)) s = .fault (.unwrittenRead .state)) ∧
    exec .storeState s = .fault (.unwrittenRead .state) ∧ exec .invMaskState s = .fault (.unwrittenRead .state) ∧
    exec .invRemaskState s = .fault (.unwrittenRead .state) ∧
    exec .invUnmaskState s = .fault (.unwrittenRead .state) := by
  have hstate : s.readable .state = false := (readable_of_strict hs _).trans h
  have hstop : ∀ after k, reading (.state :: after) s k = .stopped (.unwrittenRead .state) :=
    fun after k => reading_stops (before := []) k nofun hstate
  refine ⟨fun r k => exec_faults ?_, exec_faults (hstop _ _), exec_faults (hstop _ _), exec_faults (hstop _ _),
    exec_faults (hstop _ _)⟩
  rw [commandEffect, operand_indexByte (by decide), operand_indexByte (by decide), hstop]

/-- What INV_BYTE_SUB reads first can be read where PERM is written or not needed (R268, R269). -/
theorem order_readable (h : s.shuffling = true → s.written.perm = true) :
    ∀ e ∈ (if s.shuffling then [Element.perm] else []), s.readable e = true := by
  intro e he
  rw [readable_of_strict hs]
  split at he
  next hsh => rw [List.mem_singleton.1 he]; exact h hsh
  next => exact absurd he List.not_mem_nil

theorem unwrittenState_faults_layers (h : s.written.state = false) :
    (s.PrefixReady true → exec .invShiftRows s = .fault (.unwrittenRead .state) ∧
      exec .invMixCols s = .fault (.unwrittenRead .state)) ∧
    (s.PrefixReady true → (s.masking = true → s.written.mrk = true) →
      ∀ i : Fin 11, exec (.addRoundKey (indexByte i)) s = .fault (.unwrittenRead .state)) ∧
    (s.PrefixReady false → (s.shuffling = true → s.written.perm = true) →
      exec .invByteSub s = .fault (.unwrittenRead .state)) := by
  have hstate : s.readable .state = false := (readable_of_strict hs _).trans h
  have hstop : ∀ k, reading [.state] s k = .stopped (.unwrittenRead .state) :=
    fun k => reading_stops (before := []) k nofun hstate
  refine ⟨fun hp => ⟨exec_faults ?_, exec_faults ?_⟩, fun hp hmrk i => exec_faults ?_, fun hp hperm => exec_faults ?_⟩
  · rw [commandEffect, perform, invShiftRows_eq_layer]
    exact layer_stops hp (fun _ _ => rfl) hstop _
  · rw [commandEffect, perform, invMixCols_eq_layer]
    exact layer_stops hp (fun _ _ => rfl) hstop _
  · rw [commandEffect, operand_indexByte (by decide), perform, addRoundKey_eq_layer]
    refine layer_stops hp (fun _ _ => rfl) (fun k => ?_) _
    unfold State.roundKeyElements
    split
    next hm =>
      have hread : s.readable .mrk = true := (readable_of_strict hs _).trans (hmrk hm)
      exact reading_stops (before := [.mrk]) k (by simpa using hread) hstate
    next => exact hstop k
  · rw [commandEffect, perform, invByteSub_eq_layer]
    refine layer_stops hp (fun _ _ => rfl) (fun k => ?_) _
    rw [State.byteSubElements, List.append_assoc]
    exact reading_stops k (order_readable hs hperm) hstate

theorem unwrittenMasks_faults (h : s.written.masks = false) :
    exec .maskSubkeys s = .fault (.unwrittenRead .masks) ∧
    (s.written.state = true → exec .invMaskState s = .fault (.unwrittenRead .masks) ∧
      exec .invRemaskState s = .fault (.unwrittenRead .masks) ∧
      exec .invUnmaskState s = .fault (.unwrittenRead .masks)) := by
  have hmasks : s.readable .masks = false := (readable_of_strict hs _).trans h
  refine ⟨exec_faults (reading_stops (before := []) _ nofun hmasks), fun hw => ?_⟩
  have hstate : s.readable .state = true := (readable_of_strict hs _).trans hw
  have hstop : ∀ k, reading [.state, .masks] s k = .stopped (.unwrittenRead .masks) :=
    fun k => reading_stops (before := [.state]) k (by simpa using hstate) hmasks
  exact ⟨exec_faults (hstop _), exec_faults (hstop _), exec_faults (hstop _)⟩

theorem unwrittenMsbox_faults (h : s.written.msbox = false) :
    (∀ a, exec (.rdMsbox a) s = .fault (.unwrittenRead .msbox)) ∧
    (s.masking = true → s.written.state = true → (s.shuffling = true → s.written.perm = true) →
      s.PrefixReady false → exec .invByteSub s = .fault (.unwrittenRead .msbox)) := by
  have hmsbox : s.readable .msbox = false := (readable_of_strict hs _).trans h
  refine ⟨fun a => exec_faults (reading_stops (before := []) _ nofun hmsbox), fun hm hw hperm hp => exec_faults ?_⟩
  have hstate : s.readable .state = true := (readable_of_strict hs _).trans hw
  rw [commandEffect, perform, invByteSub_eq_layer]
  refine layer_stops hp (fun _ _ => rfl) (fun k => ?_) _
  rw [State.byteSubElements, if_pos hm]
  refine reading_stops k (fun e he => ?_) hmsbox
  obtain he | he := List.mem_append.1 he
  · exact order_readable hs hperm e he
  · rw [List.mem_singleton.1 he]; exact hstate

theorem unwrittenMrk_faults (h : s.written.mrk = false) (hm : s.masking = true) (hp : s.PrefixReady true) (i : Fin 11) :
    exec (.addRoundKey (indexByte i)) s = .fault (.unwrittenRead .mrk) := by
  have hmrk : s.readable .mrk = false := (readable_of_strict hs _).trans h
  refine exec_faults ?_
  rw [commandEffect, operand_indexByte (by decide), perform, addRoundKey_eq_layer]
  refine layer_stops hp (fun _ _ => rfl) (fun k => ?_) _
  rw [State.roundKeyElements, if_pos hm]
  exact reading_stops (before := []) k nofun hmrk

theorem unwrittenPerm_faults (h : s.written.perm = false) (hsh : s.shuffling = true) (hp : s.PrefixReady false) :
    exec .invByteSub s = .fault (.unwrittenRead .perm) := by
  have hperm : s.readable .perm = false := (readable_of_strict hs _).trans h
  refine exec_faults ?_
  rw [commandEffect, perform, invByteSub_eq_layer]
  refine layer_stops hp (fun _ _ => rfl) (fun k => ?_) _
  rw [State.byteSubElements, if_pos hsh]
  exact reading_stops (before := []) k nofun hperm

theorem unwrittenSched_faults (h : s.written.sched = false) (hd : s.dcnt < 40) :
    (s.dummyOps = true → exec .dummyOp s = .fault (.unwrittenRead .sched)) ∧
    (s.prefixActive true = true →
      (∀ i : Fin 11, exec (.addRoundKey (indexByte i)) s = .fault (.unwrittenRead .sched)) ∧
      exec .invShiftRows s = .fault (.unwrittenRead .sched) ∧
      exec .invMixCols s = .fault (.unwrittenRead .sched)) ∧
    (s.prefixActive false = true → exec .invByteSub s = .fault (.unwrittenRead .sched)) := by
  have hsched : s.readable .sched = false := (readable_of_strict hs _).trans h
  refine ⟨fun hdummy => exec_faults (dummyOperation_stops hdummy hd hsched),
    fun ha => ⟨fun i => exec_faults ?_, exec_faults ?_, exec_faults ?_⟩, fun ha => exec_faults ?_⟩
  · rw [commandEffect, operand_indexByte (by decide), perform, addRoundKey_eq_layer,
      layer_stops_in_prefix ha hd hsched]
  · rw [commandEffect, perform, invShiftRows_eq_layer, layer_stops_in_prefix ha hd hsched]
  · rw [commandEffect, perform, invMixCols_eq_layer, layer_stops_in_prefix ha hd hsched]
  · rw [commandEffect, perform, invByteSub_eq_layer, layer_stops_in_prefix ha hd hsched]

end

/-- Settles O51: element by element, the first of a command's reads that is not readable stops it. -/
theorem unwrittenReadFaults : Obligations.UnwrittenReadFaults := by
  intro s hs
  refine ⟨fun i h => unwrittenData_faults hs h, fun h => ?_, unwrittenMasks_faults hs, unwrittenMsbox_faults hs,
    unwrittenMrk_faults hs, unwrittenPerm_faults hs, unwrittenSched_faults hs⟩
  obtain ⟨hrotr, hstore, hmask, hremask, hunmask⟩ := unwrittenState_faults hs h
  exact ⟨hrotr, hstore, hmask, hremask, hunmask, unwrittenState_faults_layers hs h⟩

end Sys2Proof.Machine
end

section
/-! SUPPORT. O48: what one received bit does, position by position (R315, R316), and the byte that eight data bits leave. -/

namespace Sys2Proof.Machine

/-! ### One received bit -/

section

variable {x : Xcvr}

theorem rxBit_dataBit (h : x.inputBitCounter ≤ 7) (v : Bool) :
    rxBit v x = { x with
      inputByte := x.inputByte ||| (zext8 v <<< x.inputBitCounter), inputBitCounter := x.inputBitCounter + 1 } := by
  rw [rxBit, if_pos h]

theorem rxBit_parityBit (h : x.inputBitCounter = 8) (v : Bool) : rxBit v x = parityCheck v x := by
  rw [rxBit, if_neg (by omega), if_pos h]

theorem parityCheck_right {v : Bool} (h : v = parityBit x.inputByte) :
    parityCheck v x = { x with trun := false, byteReceived := true, inputBitCounter := 9 } := by
  rw [parityCheck, if_pos h]

theorem parityCheck_wrong {v : Bool} (h : v ≠ parityBit x.inputByte) :
    parityCheck v x = { x with parityError := true, dir := .output, lineDrv := true, inputBitCounter := 9 } := by
  rw [parityCheck, if_neg h]

end

/-! ### The data bits of a frame -/

/-- The accumulator after n data bits of b: its n low bits, and zeros above. -/
def lowBits (b : Byte) (n : Nat) : Byte := (b.setWidth n).setWidth 8

theorem lowBits_zero (b : Byte) : lowBits b 0 = 0 := by
  rw [lowBits, BitVec.eq_nil (b.setWidth 0)]; rfl

theorem lowBits_eight (b : Byte) : lowBits b 8 = b := by rw [lowBits, BitVec.setWidth_eq, BitVec.setWidth_eq]

theorem getLsbD_lowBits (b : Byte) (n i : Nat) : (lowBits b n).getLsbD i = (decide (i < n) && b.getLsbD i) := by
  rw [lowBits, BitVec.getLsbD_setWidth, BitVec.getLsbD_setWidth]
  by_cases hi : i < 8
  · simp [hi]
  · simp [hi, BitVec.getLsbD_of_ge b i (by omega)]

theorem getLsbD_zext8 (v : Bool) (i : Nat) : (zext8 v).getLsbD i = (decide (i = 0) && v) := by
  rw [zext8, BitVec.getLsbD_setWidth, BitVec.getLsbD_ofBool]
  by_cases hi : i = 0
  · simp [hi]
  · simp [hi]

/-- Bit n joins the accumulator at its own place. -/
theorem lowBits_succ (b : Byte) (n : Nat) : lowBits b n ||| (zext8 (b.getLsbD n) <<< n) = lowBits b (n + 1) := by
  refine BitVec.eq_of_getLsbD_eq fun i hi => ?_
  rw [BitVec.getLsbD_or, BitVec.getLsbD_shiftLeft, getLsbD_zext8, getLsbD_lowBits, getLsbD_lowBits]
  obtain hlt | rfl | hgt := Nat.lt_trichotomy i n
  · simp [hlt, Nat.lt_succ_of_lt hlt]
  · simp [hi]
  · simp [show ¬ i < n by omega, show ¬ i < n + 1 by omega, show i - n ≠ 0 by omega]

/-- From a cleared accumulator, the first n data bits of b change the accumulator and the position, and nothing else. -/
theorem foldl_rxBit_dataBits (b : Byte) {x : Xcvr} (hcounter : x.inputBitCounter = 0) (hbyte : x.inputByte = 0) (n : Nat)
    (hn : n ≤ 8) :
    (List.range n).foldl (fun z k => rxBit (b.getLsbD k) z) x =
      { x with inputByte := lowBits b n, inputBitCounter := n } := by
  induction n with
  | zero => rw [List.range_zero, List.foldl_nil, lowBits_zero, ← hcounter, ← hbyte]
  | succ n ih =>
    rw [List.range_succ, List.foldl_concat, ih (by omega), rxBit_dataBit (Nat.le_of_succ_le_succ hn), lowBits_succ]

/-- Settles O48: after the eight data bits the accumulator is b, so the parity bit is compared with b's parity. -/
theorem receivedFrameYieldsTheByte : Obligations.ReceivedFrameYieldsTheByte := by
  intro b v x y hcounter hbyte hy
  rw [foldl_rxBit_dataBits b hcounter hbyte 8 (Nat.le_refl 8), lowBits_eight, rxBit_parityBit rfl] at hy
  by_cases hv : v = parityBit b
  · rw [parityCheck_right (x := { x with inputByte := b, inputBitCounter := 8 }) hv] at hy
    subst hy
    exact ⟨rfl, rfl, fun _ => ⟨rfl, rfl, rfl, rfl⟩, fun hne => absurd hv hne⟩
  · rw [parityCheck_wrong (x := { x with inputByte := b, inputBitCounter := 8 }) hv] at hy
    subst hy
    exact ⟨rfl, rfl, fun heq => absurd heq hv, fun _ => ⟨rfl, rfl, rfl, rfl⟩⟩

end Sys2Proof.Machine
end

section
/-! SUPPORT. O1, O2, O3, O4: the rows of the opcode map (R105), what decoding reads of a word of a row and of a word of no
row (R102, R106, R107), the assembler's words (R108), and the command of a table word (R76), which O7 uses. -/

namespace Sys2Proof

open Laws

/-- Settles O1, command by command: the encoder drops no bit that the decoder reads. -/
theorem decodeOfEncodeIsTheCommand : Obligations.DecodeOfEncodeIsTheCommand
  | .nop => EncodeDecode.nop
  | .clrstat => EncodeDecode.clrstat
  | .rdstat => EncodeDecode.rdstat
  | .wkey a b => EncodeDecode.wkey a b
  | .wdata a b => EncodeDecode.wdata a b
  | .rdata a => EncodeDecode.rdata a
  | .wcfg b => EncodeDecode.wcfg b
  | .rcfg => EncodeDecode.rcfg
  | .ffmul a b => EncodeDecode.ffmul a b
  | .parity a => EncodeDecode.parity a
  | .rotrRow a b => EncodeDecode.rotrRow a b
  | .prngSeed => EncodeDecode.prngSeed
  | .prngNext => EncodeDecode.prngNext
  | .maj3 a => EncodeDecode.maj3 a
  | .keyExpand => EncodeDecode.keyExpand
  | .loadState => EncodeDecode.loadState
  | .storeState => EncodeDecode.storeState
  | .addRoundKey a => EncodeDecode.addRoundKey a
  | .invShiftRows => EncodeDecode.invShiftRows
  | .invByteSub => EncodeDecode.invByteSub
  | .invMixCols => EncodeDecode.invMixCols
  | .decrypt => EncodeDecode.decrypt
  | .maskInit => EncodeDecode.maskInit
  | .maskSubkeys => EncodeDecode.maskSubkeys
  | .invMaskState => EncodeDecode.invMaskState
  | .invRemaskState => EncodeDecode.invRemaskState
  | .invUnmaskState => EncodeDecode.invUnmaskState
  | .rdMsbox a => EncodeDecode.rdMsbox a
  | .hidingInit => EncodeDecode.hidingInit
  | .shuffleSboxAccess => EncodeDecode.shuffleSboxAccess
  | .dummyOp => EncodeDecode.dummyOp
  | .txByte a => EncodeDecode.txByte a
  | .rxByte => EncodeDecode.rxByte

/-! ### Words of a row -/

/-- The decoder reads the fields that the row uses and no other (R102). -/
theorem decode_eq_decode_usedFields {row : OpcodeRow} (hrow : row ∈ opcodeMap) {w : CmdWord} (hw : fieldOpc w = row.opc) :
    decode w =
      decode (commandWord row.opc (if row.usesA then fieldA w else 0) (if row.usesB then fieldB w else 0)) := by
  fin_cases hrow <;> simp [decode, hw]

/-- A word of a row is a command (R105). -/
theorem exists_decode_eq_ok_of_row {row : OpcodeRow} (hrow : row ∈ opcodeMap) {w : CmdWord} (hw : fieldOpc w = row.opc) :
    ∃ i, decode w = .ok i := by
  fin_cases hrow <;> simp [decode, hw]

/-- Every command's OPC is a row of the map. -/
theorem exists_row_of_command (i : Instr) : ∃ row ∈ opcodeMap, row.opc = fieldOpc (encode i) := by
  cases i <;> simp only [encode, fieldOpc_commandWord] <;> decide

/-- The decoder rejects a word for its OPC only, and reads only commands of that OPC (R105, R106, R107). -/
theorem decode_cases (w : CmdWord) :
    (∃ i, decode w = .ok i ∧ fieldOpc (encode i) = fieldOpc w) ∨ decode w = .error (.illegalCommand (fieldOpc w)) := by
  unfold decode
  split
  -- the last branch of the decoder's match is the one of no row
  case h_34 => exact .inr rfl
  all_goals
    next h => exact .inl ⟨_, rfl, by rw [encode, fieldOpc_commandWord]; exact BitVec.eq_of_toNat_eq h.symm⟩

/-- Settles O2: the decoder's error means that OPC is no row, and a row's words decode by their used fields alone. -/
theorem decodeFollowsOpcodeMap : Obligations.DecodeFollowsOpcodeMap := by
  refine ⟨?_, ?_, ?_⟩
  · rintro w ⟨row, hrow, hopc⟩
    obtain h | herr := decode_cases w
    · exact h
    · obtain ⟨i, hi⟩ := exists_decode_eq_ok_of_row hrow hopc.symm
      rw [hi] at herr
      cases herr
  · intro w hnone
    obtain ⟨i, -, hopc⟩ | herr := decode_cases w
    · obtain ⟨row, hrow, heq⟩ := exists_row_of_command i
      exact absurd (heq.trans hopc) (hnone row hrow)
    · exact herr
  · intro row hrow w v hw hv hA hB
    have hAB : (if row.usesA then fieldA w else 0) = (if row.usesA then fieldA v else 0) ∧
        (if row.usesB then fieldB w else 0) = (if row.usesB then fieldB v else 0) :=
      ⟨if_ctx_congr .rfl hA fun _ => rfl, if_ctx_congr .rfl hB fun _ => rfl⟩
    rw [decode_eq_decode_usedFields hrow hw, decode_eq_decode_usedFields hrow hv, hAB.1, hAB.2]

/-- Settles O3: each word decodes by evaluation. -/
theorem sampleWordsDecode : Obligations.SampleWordsDecode :=
  ⟨rfl, rfl, rfl, rfl, rfl, rfl, rfl, rfl, rfl, rfl, rfl⟩

/-! ### The assembler -/

/-- No two rows share a mnemonic. -/
theorem find_mnemonic : ∀ row ∈ opcodeMap, opcodeMap.find? (·.mnemonic = row.mnemonic) = some row := by decide

/-- Bytes are operands below 256, and the fields are those the row uses, 0 elsewhere (R108). -/
theorem assembleFields_bytes (row : OpcodeRow) (a b : Byte) :
    assembleFields row ((if row.usesA then [a.toNat] else []) ++ (if row.usesB then [b.toNat] else [])) =
      some (if row.usesA then a else 0, if row.usesB then b else 0) := by
  have ha : a.toNat < 256 := a.isLt
  have hb : b.toNat < 256 := b.isLt
  cases hA : row.usesA <;> cases hB : row.usesB <;> simp [assembleFields, hA, hB, ha, hb]

/-- Settles O4: the mnemonic finds its own row, and the operands of that row become its fields. -/
theorem assemblerEncodesOperands : Obligations.AssemblerEncodesOperands := by
  intro row hrow a b
  rw [assemble, find_mnemonic row hrow]
  simp only [assembleFields_bytes, Option.map_some]

/-! ### The bits of a table word -/

/-- A table word that reads as a command has the bits of that command's word. -/
theorem decode_of_decodeTableWord {nbits w : Nat} {i : Instr} (h : decodeTableWord nbits w = some i) :
    decode (BitVec.ofNat 24 (w % 2 ^ nbits)) = .ok i := by
  dsimp only [decodeTableWord] at h
  split at h
  · split at h
    · next hd => rw [hd, Option.some.inj h]
    · cases h
  · cases h

end Sys2Proof
end

section
/-! SUPPORT. O5, O6, O7: the host's step issues its oldest word (R110, R381, R430; log entries 11, 14 and 15). -/

namespace Sys2Proof.Machine

variable {s : State}

/-- When the agenda names the idle host, the step issues the oldest word (R110, R389). -/
theorem step_issues_of_agenda {later : List Agent} {item : HostItem} {rest : List HostItem}
    (hagenda : s.env.agenda = .host :: later) (hfg : s.xcvr.fg = .idle) (hcmds : s.env.cmds = item :: rest) :
    step s = issue (item.toWord s.res) (s.setEnv { s.env with agenda := later, cmds := rest }) :=
  (step_of_agenda hagenda).trans (hostStep_issues (s := s.setEnv { s.env with agenda := later }) hfg hcmds)

/-- Under PROMPT the idle host moves when no terminal write is due, no detector step is enabled and a word waits (R430). -/
theorem promptStep_of_idle_host {item : HostItem} {rest : List HostItem} (hfg : s.xcvr.fg = .idle)
    (hcmds : s.env.cmds = item :: rest) (hdue : s.env.dueWrite = none) (hedge : s.xcvr.edgeSeen = false)
    (hpend : edgePending s.params s.xcvr = false) : promptStep s = hostStep s := by
  simp [promptStep, hdue, Xcvr.foregroundEnabled, hfg, hedge, hpend, State.hostEnabled, hcmds]

/-- Settles O5: the host's step issues the word, and issuing a word that decodes is the command's meaning. -/
theorem stepRunsTheDecodedCommand : Obligations.StepRunsTheDecodedCommand := by
  intro s item rest i hfg hcmds hdec
  refine ⟨fun later hagenda => ?_, fun hturn hdue hedge hpend => ?_⟩
  · rw [step_issues_of_agenda hagenda hfg hcmds]
    exact issue_command hdec _
  · rw [step_of_promptTurn hturn, promptStep_of_idle_host hfg hcmds hdue hedge hpend, hostStep_issues hfg hcmds]
    exact issue_command hdec _

/-- Settles O6: by O2 a word of no row is illegal, and its issue is the raise; the busy host has no step. -/
theorem hostStepOnIllegalWordOrBusy : Obligations.HostStepOnIllegalWordOrBusy := by
  intro s later hagenda
  refine ⟨fun item rest hfg hcmds hnone => ?_, fun hbusy => ?_⟩
  · obtain ⟨-, hillegal, -⟩ := decodeFollowsOpcodeMap
    rw [step_issues_of_agenda hagenda hfg hcmds]
    exact issue_illegal (hillegal _ hnone) _
  · exact (step_of_agenda hagenda).trans (hostStep_busy (s := s.setEnv { s.env with agenda := later }) hbusy)

/-- Settles O7: withFetchWord puts the word first in the queue, the host idle and first on the agenda, so this is O5. -/
theorem fetchWordIsTheNextCommand : Obligations.FetchWordIsTheNextCommand := by
  intro s nbits w i h
  obtain ⟨hstep, -⟩ :=
    stepRunsTheDecodedCommand (s.withFetchWord nbits w) (.word _) s.env.cmds i rfl rfl (decode_of_decodeTableWord h)
  exact hstep s.env.agenda rfl

end Sys2Proof.Machine
end

section
/-! SUPPORT. O8, O9, O10, O11: the word of a row is that row's command (R105), what a command comes to when its effect is
had or its operand is out of range (R11, R103), and the host access commands (R130 to R137). -/

namespace Sys2Proof

/-- A word of a row is the command whose own word is the row's OPC with the fields the row uses (R102, R105). -/
theorem decode_eq_ok_of_row {row : OpcodeRow} (hrow : row ∈ opcodeMap) {w : CmdWord} (hw : fieldOpc w = row.opc)
    {i : Instr}
    (hi : encode i = commandWord row.opc (if row.usesA then fieldA w else 0) (if row.usesB then fieldB w else 0)) :
    decode w = .ok i := by
  rw [decode_eq_decode_usedFields hrow hw, ← hi]
  exact decodeOfEncodeIsTheCommand i

namespace Machine

/-! ### What an effect comes to -/

section

variable {i : Instr} {s t : State}

theorem exec_of_done (h : commandEffect i s = .done t) : exec i s = .next t := by rw [exec_eq_settle, h, settle_done]

/-- A command that finds an operand out of its range sets STATUS bit 1, and nothing else changes (R103, R382). -/
theorem exec_of_illegalOperand (h : commandEffect i s = .raised .illegalOperand s.env) :
    exec i s = .next { s with status := s.status ||| 0x02 } := by
  rw [exec_eq_settle, h, settle_raised]
  rfl

end

/-! ### The reserved bits of STATUS and CFG -/

/-- Bits 7:4 of a byte below 16 are 0. -/
theorem extractLsb'_high_eq_zero {b : Byte} (h : b.toNat < 16) : b.extractLsb' 4 4 = 0 := by
  apply BitVec.eq_of_toNat_eq
  rw [BitVec.extractLsb'_toNat, Nat.shiftRight_eq_div_pow, Nat.div_eq_of_lt h]
  rfl

/-- Masking with 0x0F is zext_8 of bits 3:0 (R22). -/
theorem cfgValue_eq_zext8_lowNibble (b : Byte) : cfgValue b = (b.extractLsb' 0 4).setWidth 8 := by
  have hand : b.toNat &&& 15 = b.toNat % 16 := Nat.and_two_pow_sub_one_eq_mod b.toNat 4
  have hmod : b.toNat % 16 % 256 = b.toNat % 16 := Nat.mod_eq_of_lt (by omega)
  apply BitVec.eq_of_toNat_eq
  simp [cfgValue, hand, hmod]

/-! ### The commands -/

/-- Settles O8: each word decodes by its row, and each command's effect is had. -/
theorem statusCommands : Obligations.StatusCommands := by
  intro w s
  exact ⟨fun h => decode_eq_ok_of_row (row := ⟨"NOP", 0x00, false, false⟩) (by decide) h rfl,
    fun h => decode_eq_ok_of_row (row := ⟨"CLRSTAT", 0x01, false, false⟩) (by decide) h rfl,
    fun h => decode_eq_ok_of_row (row := ⟨"RDSTAT", 0x02, false, false⟩) (by decide) h rfl,
    exec_of_done rfl, exec_of_done rfl, exec_of_done rfl, fun h => extractLsb'_high_eq_zero h.status_reserved⟩

/-- Settles O9: the value that RCFG reads and WCFG writes is zext_8 of the low nibble, whose bits are the fields. -/
theorem configurationCommands : Obligations.ConfigurationCommands := by
  intro w s
  refine ⟨fun h => decode_eq_ok_of_row (row := ⟨"RCFG", 0x14, false, false⟩) (by decide) h rfl,
    fun h => decode_eq_ok_of_row (row := ⟨"WCFG", 0x13, false, true⟩) (by decide) h rfl, ?_, ?_⟩
  · rw [← cfgValue_eq_zext8_lowNibble]
    exact exec_of_done rfl
  · refine ⟨_, exec_of_done rfl, ?_, ?_⟩
    · rw [← cfgValue_eq_zext8_lowNibble]
      rfl
    · simp [State.masking, State.shuffling, State.dummyOps, State.dpa, cfgValue_eq_zext8_lowNibble]

/-- Settles O10: an index in range writes its byte, and one above 15 raises IllegalOperand. -/
theorem wkeyAndWdataWriteOneByte : Obligations.WkeyAndWdataWriteOneByte := by
  intro w s
  refine ⟨fun h => decode_eq_ok_of_row (row := ⟨"WKEY", 0x10, true, true⟩) (by decide) h rfl,
    fun h => decode_eq_ok_of_row (row := ⟨"WDATA", 0x11, true, true⟩) (by decide) h rfl, fun ha => ?_, fun ha => ?_⟩
  · constructor <;> exact exec_of_done (by rw [commandEffect, operand_inRange s _ ha]; rfl)
  · constructor <;> exact exec_of_illegalOperand (by rw [commandEffect, operand_outOfRange s _ ha])

/-- Settles O11: an index in range whose byte is readable returns it, and one above 15 raises IllegalOperand. -/
theorem rdataReadsOneDataByte : Obligations.RdataReadsOneDataByte := by
  intro w s hw
  refine ⟨decode_eq_ok_of_row (row := ⟨"RDATA", 0x12, true, false⟩) (by decide) hw rfl, fun ha hr => exec_of_done ?_,
    fun ha => exec_of_illegalOperand ?_⟩
  · rw [commandEffect, operand_inRange s _ ha, reading_of_readable (fun e he => by rwa [List.mem_singleton.1 he])]
    rfl
  · rw [commandEffect, operand_outOfRange s _ ha]

end Machine

end Sys2Proof
end

section
/-! SUPPORT. O12, O13, O16: the field laws of the multiplier, by induction on the bits of a byte and on R150's doubling,
and the S-Box tables (R150 to R157). -/

namespace Sys2Proof.Machine

/-! ### Two inductions on a byte -/

/-- The low n + 1 bits of a byte are its low n bits and bit n. -/
theorem lowBits_succ_eq_xor (a : Byte) (n : Nat) :
    lowBits a (n + 1) = lowBits a n ^^^ (zext8 (a.getLsbD n) <<< n) := by
  apply BitVec.eq_of_getLsbD_eq
  intro i hi
  rw [BitVec.getLsbD_xor, BitVec.getLsbD_shiftLeft, getLsbD_zext8, getLsbD_lowBits, getLsbD_lowBits]
  obtain h | rfl | h := Nat.lt_trichotomy i n
  · simp [h, Nat.lt_succ_of_lt h]
  · simp [hi]
  · simp [show ¬ i < n by omega, show ¬ i < n + 1 by omega, show i - n ≠ 0 by omega]

/-- What XOR keeps and what 0 and every byte with one bit have, every byte has. -/
theorem byte_bit_induction {P : Byte → Prop} (zero : P 0) (bit : ∀ k : Fin 8, P ((1 : Byte) <<< k.val))
    (xor : ∀ a b, P a → P b → P (a ^^^ b)) (a : Byte) : P a := by
  have hlow : ∀ n ≤ 8, P (lowBits a n) := by
    intro n
    induction n with
    | zero => exact fun _ => lowBits_zero a ▸ zero
    | succ n ih =>
      intro hn
      rw [lowBits_succ_eq_xor]
      refine xor _ _ (ih (by omega)) ?_
      cases a.getLsbD n
      · exact BitVec.zero_shiftLeft n ▸ zero
      · exact bit ⟨n, hn⟩
  exact lowBits_eight a ▸ hlow 8 (Nat.le_refl 8)

/-- What XOR and doubling keep and what 0 and 1 have, every byte has. -/
theorem byte_doubling_induction {P : Byte → Prop} (zero : P 0) (one : P 1) (double : ∀ a, P a → P (xtime a))
    (xor : ∀ a b, P a → P b → P (a ^^^ b)) (a : Byte) : P a := by
  have hpower : ∀ k : Fin 8, (1 : Byte) <<< k.val = xtime^[k.val] 1 := by decide
  refine byte_bit_induction zero (fun k => ?_) xor a
  rw [hpower]
  exact Function.Iterate.rec P one double k.val

/-! ### The field laws -/

/-- Multiplying by 2 is the doubling of R150. -/
theorem ffMul_two (a : Byte) : ffMul a 0x02 = xtime a := BitVec.zero_xor

@[simp] theorem ffMul_one (a : Byte) : ffMul a 0x01 = a := BitVec.zero_xor

@[simp] theorem ffMul_zero (a : Byte) : ffMul a 0x00 = 0x00 := rfl

@[simp] theorem zero_ffMul (y : Byte) : ffMul 0x00 y = 0x00 := by
  have h := ffMul_xor_left 0 0 y
  rwa [BitVec.xor_self, BitVec.xor_self] at h

theorem ffMulLoop_xtime (y : Byte) (n k : Nat) (x p : Byte) :
    ffMulLoop y n k (xtime x) (xtime p) = xtime (ffMulLoop y n k x p) := by
  induction n generalizing k x p with
  | zero => rfl
  | succ n ih =>
    simp only [ffMulLoop, ← ih]
    split
    · rw [xtime_xor]
    · rfl

/-- Doubling a factor doubles the product. -/
theorem ffMul_xtime_left (x y : Byte) : ffMul (xtime x) y = xtime (ffMul x y) := ffMulLoop_xtime y 8 0 x 0

/-- The factors commute: they do at the one-bit bytes, and ffMul is linear in each. -/
theorem ffMul_comm (a b : Byte) : ffMul a b = ffMul b a := by
  have hbits : ∀ i k : Fin 8, ffMul ((1 : Byte) <<< i.val) ((1 : Byte) <<< k.val) = ffMul (1 <<< k.val) (1 <<< i.val) := by
    decide
  induction a using byte_bit_induction with
  | zero => rw [zero_ffMul, ffMul_zero]
  | xor a a' ih ih' => rw [ffMul_xor_left, ffMul_xor_right, ih, ih']
  | bit i =>
    induction b using byte_bit_induction with
    | zero => rw [zero_ffMul, ffMul_zero]
    | xor b b' ih ih' => rw [ffMul_xor_left, ffMul_xor_right, ih, ih']
    | bit k => exact hbits i k

@[simp] theorem one_ffMul (y : Byte) : ffMul 0x01 y = y := by rw [ffMul_comm, ffMul_one]

theorem ffMul_assoc (a b c : Byte) : ffMul (ffMul a b) c = ffMul a (ffMul b c) := by
  induction a using byte_doubling_induction with
  | zero => simp only [zero_ffMul]
  | one => simp only [one_ffMul]
  | double a ih => simp only [ffMul_xtime_left, ih]
  | xor a a' ih ih' => simp only [ffMul_xor_left, ih, ih']

/-- A byte has at most one inverse. -/
theorem eq_of_ffMul_eq_one {x b c : Byte} (hb : ffMul x b = 0x01) (hc : ffMul x c = 0x01) : b = c :=
  calc b = ffMul (ffMul x c) b := by rw [hc, one_ffMul]
    _ = ffMul (ffMul x b) c := by rw [ffMul_assoc, ffMul_comm c b, ← ffMul_assoc]
    _ = c := by rw [hb, one_ffMul]

/-! ### The tables and the inverse -/

/-- The affine transform that makes SBOX[x] of the inverse of x (R156). -/
def affine (b : Byte) : Byte :=
  b ^^^ b.rotateLeft 1 ^^^ b.rotateLeft 2 ^^^ b.rotateLeft 3 ^^^ b.rotateLeft 4 ^^^ 0x63

/-- What undoes the affine transform. -/
def unaffine (y : Byte) : Byte := y.rotateLeft 1 ^^^ y.rotateLeft 3 ^^^ y.rotateLeft 6 ^^^ 0x05

/-- The inverse of x in the field, 0 for x = 0, read back from SBOX[x]. -/
def ffInv (x : Byte) : Byte := unaffine (sbox x)

theorem affine_unaffine (y : Byte) : affine (unaffine y) = y := by revert y; decide

theorem sbox_eq_affine (x : Byte) : sbox x = affine (ffInv x) := (affine_unaffine (sbox x)).symm

/-- The field has inverses: the kernel multiplies each byte by the one read back from SBOX. -/
theorem ffMul_ffInv (x : Byte) (h : x ≠ 0) : ffMul x (ffInv x) = 0x01 := by revert x; decide +kernel

/-- The kernel looks each byte up in the two tables. -/
theorem invSbox_sbox (x : Byte) : invSbox (sbox x) = x := by revert x; decide +kernel

/-- INV_SBOX undoes SBOX, so on the finitely many bytes SBOX undoes INV_SBOX. -/
theorem sbox_invSbox (x : Byte) : sbox (invSbox x) = x := by
  have hleft : Function.LeftInverse invSbox sbox := invSbox_sbox
  exact hleft.rightInverse_of_surjective (Finite.surjective_of_injective hleft.injective) x

/-! ### The obligations -/

/-- Settles O12: the laws of ffMul, and the inverse that SBOX holds. -/
theorem ffMulIsFieldMultiplication : Obligations.FfMulIsFieldMultiplication :=
  ⟨ffMul_two, ffMul_comm, ffMul_one, ffMul_zero, ffMul_assoc, ffMul_xor_right, fun a h => ⟨ffInv a, ffMul_ffInv a h⟩⟩

/-- Settles O13: the corner cases are the zero and the one of the field. -/
theorem ffmulReturnsTheProduct : Obligations.FfmulReturnsTheProduct := by
  intro w s hw
  refine ⟨decode_eq_ok_of_row (row := ⟨"FFMUL", 0x20, true, true⟩) (by decide) hw rfl, exec_of_done rfl, ?_, ?_⟩
  · rintro (h | h)
    · rw [h, zero_ffMul]
    · rw [h, ffMul_zero]
  · intro h
    rw [h, one_ffMul]

/-- Settles O16: a byte's inverse in the field is the one that SBOX holds, as a byte has at most one. -/
theorem sboxTablesAreInverse : Obligations.SboxTablesAreInverse := by
  refine ⟨fun x => ⟨invSbox_sbox x, sbox_invSbox x⟩, ?_⟩
  rintro x b (h | ⟨rfl, rfl⟩)
  · have hx : x ≠ 0 := by
      rintro rfl
      rw [zero_ffMul] at h
      exact absurd h (by decide)
    rw [eq_of_ffMul_eq_one h (ffMul_ffInv x hx)]
    exact sbox_eq_affine x
  · rfl

end Sys2Proof.Machine
end

section
/-! SUPPORT. O14, O15: rotr as a rotation of a list, and ROTR_ROW element by element (R153 to R155). -/

namespace Sys2Proof.Machine

/-- The three reversals rotate left by what is left of the array's length (R153). -/
theorem rotr_eq_rotate {α : Type} (a : List α) (k : Nat) : rotr a k = a.rotate (a.length - k) := by
  rw [List.rotate_eq_drop_append_take (Nat.sub_le _ _)]
  simp [rotr]

/-- Settles O14: rotr is the library's rotation, to the left by n - k. -/
theorem rotrRotatesRight : Obligations.RotrRotatesRight := by
  intro a k hk
  simp only [rotr_eq_rotate, List.length_rotate]
  refine ⟨trivial, fun i hi => ?_, ?_, ?_, ?_⟩
  · rw [List.getElem?_rotate hi, Nat.add_sub_assoc hk]
  · exact List.rotate_length a
  · rw [Nat.sub_self, List.rotate_zero]
  · rw [List.rotate_rotate, show a.length - k + (a.length - (a.length - k)) = a.length by omega, List.rotate_length]

/-- ROTR_ROW's effect on STATE, element by element (R155). -/
theorem rotateRow_get (m : StateMatrix) (a : Fin 4) (k : Fin 5) (r c : Fin 4) :
    (rotateRow m a k.val).get r c = if r = a then m.get r (c - Fin.ofNat 4 k.val) else m.get r c := by
  by_cases h : r = a
  · subst h
    have hrow := rotrRow_get m[r] k c
    simpa [StateMatrix.get, rotateRow] using hrow
  · have hne : a.val ≠ r.val := fun he => h (Fin.ext he.symm)
    simp [StateMatrix.get, rotateRow, h, hne]

/-- Settles O15: both operands in range, the row is rotated; one out of range is IllegalOperand. -/
theorem rotrRowRotatesOneRow : Obligations.RotrRowRotatesOneRow := by
  intro w s hw
  refine ⟨decode_eq_ok_of_row (row := ⟨"ROTR_ROW", 0x22, true, true⟩) (by decide) hw rfl, fun ha hb hr => ?_,
    fun h => exec_of_illegalOperand ?_⟩
  · have ha' : (fieldA w).toNat < 4 := Nat.lt_succ_of_le ha
    have hb' : (fieldB w).toNat < 5 := Nat.lt_succ_of_le hb
    refine ⟨s.setState (rotateRow s.state ⟨_, ha'⟩ (fieldB w).toNat), exec_of_done ?_, rfl, fun r c => ?_⟩
    · rw [commandEffect, operand_inRange s _ ha', operand_inRange s _ hb', reading_of_readable (by simpa using hr)]
    · rw [State.setState_state, rotateRow_get s.state ⟨_, ha'⟩ ⟨_, hb'⟩ r c]
      simp only [Fin.ext_iff]
  · rw [commandEffect]
    rcases Nat.lt_or_ge (fieldA w).toNat 4 with ha | ha
    · rw [operand_inRange s _ ha, operand_outOfRange s _ (by omega)]
    · rw [operand_outOfRange s _ ha]

end Sys2Proof.Machine
end

section
/-! SUPPORT. O17: the parity of a byte as the XOR of its bits, the majority of three samples, and the commands that
return them (R159 to R162). -/

namespace Sys2Proof.Machine

theorem zext8_eq_ite (b : Bool) : zext8 b = if b then 0x01 else 0x00 := by cases b <;> rfl

/-- The XOR fold by 4, 2 and 1 leaves the XOR of all eight bits in bit 0 (R159). -/
theorem parityBit_eq_foldr_xor (b : Byte) : parityBit b = (List.range 8).foldr (fun i p => b.getLsbD i ^^ p) false := by
  have hrange : List.range 8 = [0, 1, 2, 3, 4, 5, 6, 7] := rfl
  simp only [parityBit, hrange, List.foldr_cons, List.foldr_nil, Bool.false_xor, BitVec.getLsbD_xor,
    BitVec.getLsbD_ushiftRight, Nat.reduceAdd, Bool.xor_assoc, Bool.xor_comm, Bool.xor_left_comm]

/-- A count and the XOR of what is counted make an even number. -/
theorem countP_add_foldr_xor_even {α : Type} (f : α → Bool) (l : List α) :
    (l.countP f + (if l.foldr (fun i p => f i ^^ p) false then 1 else 0)) % 2 = 0 := by
  induction l with
  | nil => rfl
  | cons x l ih =>
    rw [List.countP_cons, List.foldr_cons]
    cases f x with
    | false => simpa using ih
    | true =>
      generalize l.foldr (fun i p => f i ^^ p) false = odd at ih ⊢
      cases odd <;> simp at ih ⊢ <;> omega

/-- The sum of three votes is positive when two of the samples are high (R161). -/
theorem maj3_eq_decide_two_high (s1 s2 s3 : Bool) : maj3 s1 s2 s3 = decide (2 ≤ [s1, s2, s3].countP id) := by
  revert s1 s2 s3; decide

/-- A word of MAJ3's OPC, whatever its A[7:3] and B (R102, R162). -/
theorem decode_maj3 {w : CmdWord} (hw : fieldOpc w = 0x25) : decode w = .ok (.maj3 ((fieldA w).extractLsb' 0 3)) := by
  simp [decode, hw]

/-- Settles O17: the parity bit is the XOR of the bits it is counted with, and MAJ3 keeps the three bits it votes on. -/
theorem parityAndMajority : Obligations.ParityAndMajority := by
  refine ⟨fun b => ?_, maj3_eq_decide_two_high, fun w s =>
    ⟨fun hw => decode_eq_ok_of_row (row := ⟨"PARITY", 0x21, true, false⟩) (by decide) hw rfl, exec_of_done ?_,
      decode_maj3, exec_of_done ?_⟩⟩
  · rw [parityBit_eq_foldr_xor]
    exact countP_add_foldr_xor_even b.getLsbD (List.range 8)
  · rw [commandEffect, zext8_eq_ite]; rfl
  · rw [commandEffect, zext8_eq_ite]; simp [samplesOf, State.setRes]

end Sys2Proof.Machine
end

section
/-! SUPPORT. O35: what a layer command comes to when its dummy op is ready and when it is one too many (R235, R384), and
the inverse MixColumn map (R158, R270). -/

namespace Sys2Proof.Machine

/-- A layer whose dummy op is ready moves the counters and writes STATE, and that is all (R235, R265 to R270). -/
theorem exec_layer_of_ready {i : Instr} {s : State} {linear : Bool} {es : List Element} {f : State → StateMatrix}
    (hi : commandEffect i s = layer linear (fun _ => es) f s) (hp : s.PrefixReady linear)
    (hr : ∀ e ∈ es, s.readable e = true) :
    exec i s = .next ((s.setCounters (s.dcntAfterPrefix linear) (s.nopCountAfterPrefix linear)).setState
      (f (s.setCounters (s.dcntAfterPrefix linear) (s.nopCountAfterPrefix linear)))) :=
  exec_of_done (hi.trans (layer_of_ready hp hr f))

/-- A layer whose dummy op would be the 41st sets STATUS bit 3, and nothing else changes (R235, R384). -/
theorem exec_layer_of_overrun {i : Instr} {s : State} {linear : Bool} {es : State → List Element}
    {f : State → StateMatrix} (hi : commandEffect i s = layer linear es f s) (ha : s.prefixActive linear = true)
    (hd : 40 ≤ s.dcnt) : exec i s = .next { s with status := s.status ||| 0x08 } := by
  rw [exec_eq_settle, hi, layer, dummyPrefix, if_pos ha, dummyOperation_overrun (dummyOps_of_prefixActive ha) hd,
    andThen_raised, settle_raised]
  rfl

theorem unmixColumns_xor (m n : StateMatrix) (r c : Fin 4) :
    (unmixColumns (StateMatrix.ofFn fun r c => m.get r c ^^^ n.get r c)).get r c
      = (unmixColumns m).get r c ^^^ (unmixColumns n).get r c := by
  simp only [unmixColumns_get, StateMatrix.get_ofFn, ffMul_xor_right]
  ac_rfl

/-- A column of equal bytes is fixed: each row of IMCM XORs to 1 (R158). -/
theorem invMixColumn_const (m : Byte) : invMixColumn #v[m, m, m, m] = #v[m, m, m, m] := by
  apply Vector.ext
  intro i hi
  calc (invMixColumn #v[m, m, m, m])[i] = ffMul 1 m :=
        (invMixColumn_get _ ⟨i, hi⟩).trans (ffMul_imcm_row m ⟨i, hi⟩)
    _ = m := one_ffMul m
    _ = #v[m, m, m, m][i] := (Vector.getElem_replicate hi).symm

/-- Settles O35: INV_MIX_COLS is a layer command, and its map is linear because ffMul is. -/
theorem invMixColsMultipliesColumns : Obligations.InvMixColsMultipliesColumns := by
  intro w s hw
  refine ⟨decode_eq_ok_of_row (row := ⟨"INV_MIX_COLS", 0x36, false, false⟩) (by decide) hw rfl, fun hp hr => ?_,
    exec_layer_of_overrun (invMixCols_eq_layer s), unmixColumns_xor, invMixColumn_const⟩
  exact ⟨_, exec_layer_of_ready (invMixCols_eq_layer s) hp (by simpa using hr), rfl, unmixColumns_get s.state⟩

end Sys2Proof.Machine
end

section
/-! SUPPORT. O18, O19, O20, O21, O26: the cycle of the xorshift step (R180, R181), the seed bit by bit (R182, R183), and the
commands that seed the generator or draw from it (R184, R185, R201, R231). -/

namespace Sys2Proof.Machine

/-! ### The seed -/

/-- The first of the conversions shifted in ends highest, and the accumulator moves up (R183). -/
theorem getLsbD_shiftedBits (e : Env) (n : Nat) (acc : Byte) {i : Nat} (hi : i < 8) :
    (shiftedBits e n acc).getLsbD i =
      if i < n then (e.conversionAt (n - 1 - i)).bit else acc.getLsbD (i - n) := by
  induction n generalizing e acc with
  | zero => rfl
  | succ n ih =>
    rw [shiftedBits, ih, Env.afterConversion_conversionAt, BitVec.getLsbD_or, BitVec.getLsbD_shiftLeft, getLsbD_zext8]
    obtain h | rfl | h := Nat.lt_trichotomy i n
    · simp [h, Nat.lt_succ_of_lt h, show n - 1 - i + 1 = n - i by omega]
    · simp
    · simp [show ¬ i < n by omega, show ¬ i < n + 1 by omega, show i - n ≠ 0 by omega, show i - n < 8 by omega,
        Nat.sub_sub]

/-- Conversion k of a seeding is bit 7 - k of the seed (R183). -/
theorem getLsbD_seed (s : State) {k : Nat} (hk : k < 8) : s.seed.getLsbD (7 - k) = (s.env.conversionAt k).bit := by
  rw [State.seed, getLsbD_shiftedBits _ _ _ (by omega), if_pos (by omega), show 8 - 1 - (7 - k) = k by omega]

/-! ### A command that seeds -/

section

variable {i : Instr} {s : State}

theorem exec_seeding_of_answers {f : State → State} (hi : commandEffect i s = seeding s fun t => .done (f t))
    (h : s.EntropyAnswers 8) : exec i s = .next (f s.seeded) :=
  exec_of_done (hi.trans (seeding_of_answers h _))

/-- A command that seeds sets STATUS bit 2 where a conversion is unavailable, and no element changes (R183, R383). -/
theorem exec_seeding_of_unavailable {k : State → Effect} (hi : commandEffect i s = seeding s k) (n : Nat) (hn : n < 8)
    (h : s.EntropyAnswers n) (hc : s.params.entropyCanFail = true) (hu : (s.env.conversionAt n).unavailable = true) :
    exec i s = .next { s with status := s.status ||| 0x04, env := s.env.afterConversions (n + 1) } := by
  rw [exec_eq_settle, hi, seeding_of_unavailable hn h hc hu, settle_raised]
  rfl

end

/-! ### What is drawn from the seed -/

theorem drawMasks_sbmIn (dpa : Bool) (x : Byte) : (drawMasks dpa x).1.sbmIn = prngStep x := by
  cases dpa <;> rfl

theorem drawnMasks_of_dpa {s : State} (h : s.dpa = true) :
    s.drawnMasks.masks.sbmOut = prngStep s.prng ∧ (∀ r : Fin 4, s.drawnMasks.masks.mcmOut[r] = prngStep s.prng) ∧
      s.drawnMasks.prng = prngStep s.prng := by
  simp only [State.drawnMasks, h, drawMasks_dpa]
  exact ⟨rfl, fun r => Vector.getElem_replicate r.isLt, rfl⟩

/-- Without DPA there are six draws: m, m′ and the four m_i′, in this order (R201). -/
theorem drawMasks_of_not_dpa (x : Byte) :
    drawMasks false x =
      (masksFrom (prngStep x) (prngStep^[2] x) (Vector.ofFn fun r : Fin 4 => prngStep^[3 + r.val] x), prngStep^[6] x) :=
  rfl

theorem drawnMasks_of_not_dpa {s : State} (h : s.dpa = false) :
    s.drawnMasks.masks.sbmOut = prngStep^[2] s.prng ∧
      (∀ r : Fin 4, s.drawnMasks.masks.mcmOut[r] = prngStep^[3 + r.val] s.prng) ∧
      s.drawnMasks.prng = prngStep^[6] s.prng := by
  simp only [State.drawnMasks, h, drawMasks_of_not_dpa]
  exact ⟨rfl, fun r => Vector.getElem_ofFn r.isLt, rfl⟩

/-- BuildSchedule makes 39 draws for the entries and 39 for their shuffle (R232). -/
theorem buildSchedule_prng (x : Byte) : (buildSchedule x).2 = prngStep^[78] x := by
  rw [buildSchedule, fisherYates_prng, unshuffledSchedule, drawEntries_prng, ← Function.iterate_add_apply]

theorem drawnSchedule_of_dummyOps {s : State} (h : s.dummyOps = true) :
    s.drawnSchedule.sched = (buildSchedule s.prng).1 ∧ s.drawnSchedule.prng = (buildSchedule s.prng).2 := by
  simp [State.drawnSchedule, h]

theorem drawnSchedule_of_not_dummyOps {s : State} (h : s.dummyOps = false) :
    s.drawnSchedule.sched = s.sched ∧ s.drawnSchedule.prng = s.prng := by
  simp [State.drawnSchedule, h]

/-! ### The cycle of the xorshift step -/

theorem prngStep_zero : prngStep 0 = 0 := by decide

theorem prngStep_isPeriodicPt_one : Function.IsPeriodicPt prngStep 255 1 := by
  rw [Function.IsPeriodicPt, Function.IsFixedPt]
  decide +kernel

/-- The period of 1 divides 255 = 3 · 5 · 17, and none of the largest proper divisors. -/
theorem prngStep_minimalPeriod_one : Function.minimalPeriod prngStep 1 = 255 := by
  have hdivisors : ∀ d ∈ Nat.divisors 255, d ≠ 255 → ∃ n ∈ [15, 51, 85], d ∣ n := by decide
  have hproper : ∀ n ∈ [15, 51, 85], prngStep^[n] 1 ≠ 1 := by decide +kernel
  by_contra hne
  obtain ⟨n, hn, hdvd⟩ :=
    hdivisors _ (Nat.mem_divisors.2 ⟨prngStep_isPeriodicPt_one.minimalPeriod_dvd, by decide⟩) hne
  exact hproper n hn (Function.isPeriodicPt_iff_minimalPeriod_dvd.2 hdvd)

/-- 0 is not on the cycle of 1, as it would never lead back. -/
theorem prngStep_iterate_one_ne_zero {n : Nat} (hn : n < 255) : prngStep^[n] 1 ≠ 0 := by
  intro h
  have hback : prngStep^[255 - n] (prngStep^[n] 1) = 1 := by
    rw [← Function.iterate_add_apply, Nat.sub_add_cancel hn.le]
    exact prngStep_isPeriodicPt_one
  rw [h, Function.iterate_fixed prngStep_zero] at hback
  exact absurd hback (by decide)

/-- The cycle of 1 has as many bytes as there are other than 0. -/
theorem exists_prngStep_iterate_one {x : Byte} (hx : x ≠ 0) : ∃ n < 255, prngStep^[n] 1 = x := by
  have hinj : Set.InjOn (prngStep^[·] 1) (Finset.range 255) := by
    rw [Finset.coe_range, ← prngStep_minimalPeriod_one]
    exact Function.iterate_injOn_Iio_minimalPeriod
  have hmaps : Set.MapsTo (prngStep^[·] 1) (Finset.range 255) (Finset.univ.erase (0 : Byte)) := by
    intro n hn
    simpa using prngStep_iterate_one_ne_zero (Finset.mem_range.1 hn)
  have hcard : (Finset.univ.erase (0 : Byte)).card ≤ (Finset.range 255).card := by
    rw [Finset.card_erase_of_mem (Finset.mem_univ _), Finset.card_univ, ← FinEnum.card_eq_fintypeCard]
    simp
  obtain ⟨n, hn, hnx⟩ := Finset.surjOn_of_injOn_of_card_le _ hmaps hinj hcard (by simpa using hx)
  exact ⟨n, Finset.mem_range.1 hn, hnx⟩

/-- Every byte is on a cycle, and so an image. -/
theorem prngStep_surjective : Function.Surjective prngStep := by
  intro x
  have hperiodic : Function.IsPeriodicPt prngStep 255 x := by
    by_cases hx : x = 0
    · exact hx ▸ Function.IsFixedPt.isPeriodicPt prngStep_zero 255
    · obtain ⟨n, -, rfl⟩ := exists_prngStep_iterate_one hx
      exact prngStep_isPeriodicPt_one.apply_iterate n
  exact Function.periodicPts_subset_range (Function.mk_mem_periodicPts (by decide) hperiodic)

/-! ### The obligations -/

/-- Settles O21: the masks are drawn from the seed, and MSBOX and MCM_IN are made of them. -/
theorem maskInitDrawsMasks : Obligations.MaskInitDrawsMasks := by
  intro w s hw
  refine ⟨decode_eq_ok_of_row (row := ⟨"MASK_INIT", 0x40, false, false⟩) (by decide) hw rfl, fun h => ?_,
    exec_seeding_of_unavailable (k := fun t => .done t.drawnMasks) rfl⟩
  refine ⟨s.seeded.drawnMasks, s.seed, exec_seeding_of_answers rfl h, fun k hk => getLsbD_seed s hk,
    drawnMasks_frame s.seeded, drawMasks_sbmIn s.dpa s.seed, drawnMasks_of_dpa (s := s.seeded),
    drawnMasks_of_not_dpa (s := s.seeded), drawnMasks_mcmIn _, fun i => ?_⟩
  rw [drawnMasks_msbox]
  exact maskedInvSbox_lookup _ _ i

/-- Settles O19: PRNG_SEED leaves the seed in PRNG. -/
theorem prngSeedConcatenatesConversions : Obligations.PrngSeedConcatenatesConversions := by
  intro w s hw
  refine ⟨decode_eq_ok_of_row (row := ⟨"PRNG_SEED", 0x23, false, false⟩) (by decide) hw rfl, fun h => ?_,
    exec_seeding_of_unavailable rfl⟩
  exact ⟨s.seeded, exec_seeding_of_answers (f := id) rfl h, rfl, fun k hk => getLsbD_seed s hk⟩

/-- Settles O26: the schedule is drawn from the seed under DUMMY_OPS, and the counters are cleared. -/
theorem hidingInitSeedsAndClears : Obligations.HidingInitSeedsAndClears := by
  intro w s hw
  refine ⟨decode_eq_ok_of_row (row := ⟨"HIDING_INIT", 0x50, false, false⟩) (by decide) hw rfl, fun h => ?_,
    exec_seeding_of_unavailable (k := fun t => .done t.drawnSchedule) rfl⟩
  refine ⟨s.seeded.drawnSchedule, s.seed, exec_seeding_of_answers rfl h, fun k hk => getLsbD_seed s hk,
    drawnSchedule_frame s.seeded, fun hd => ?_, drawnSchedule_of_not_dummyOps (s := s.seeded)⟩
  rw [← buildSchedule_prng]
  exact drawnSchedule_of_dummyOps (s := s.seeded) hd

/-- Settles O18: 0 is its own image, and the cycle of 1 is all other bytes. -/
theorem prngStepIsOneCycle : Obligations.PrngStepIsOneCycle :=
  ⟨prngStep_surjective.bijective_of_finite, prngStep_zero, prngStep_isPeriodicPt_one, fun _ => exists_prngStep_iterate_one⟩

/-- Settles O20: PRNG and RES both take step(PRNG), which is 0 at 0. -/
theorem prngNextAdvances : Obligations.PrngNextAdvances := by
  intro w s hw
  refine ⟨decode_eq_ok_of_row (row := ⟨"PRNG_NEXT", 0x24, false, false⟩) (by decide) hw rfl, exec_of_done rfl, fun h => ?_⟩
  have hstep : prngStep s.prng = 0 := h ▸ prngStep_zero
  exact ⟨_, exec_of_done rfl, hstep, hstep⟩

end Sys2Proof.Machine
end

section
/-! SUPPORT. O57: the schedule and the access order that the generator's draws make (R232, R233, R238), and the
countermeasures' elements, which only the three drawing commands write (R30, R31, R33, R34). -/

namespace Sys2Proof.Machine

/-! ### Schedules and access orders -/

/-- The 39 entries drawn and what remains make up 100 (R232, R238). -/
theorem drawEntries_sum (x : Byte) :
    ((drawEntries 39 Config.maxNumberNoOps x).1 ++ [(drawEntries 39 Config.maxNumberNoOps x).2.1]).sum
      = Config.maxNumberNoOps := by
  obtain ⟨htotal, -⟩ := drawEntries_total (n := 39) (rem := Config.maxNumberNoOps) (by decide) x
  rw [List.sum_append, List.sum_singleton, htotal]

/-- The slots of the schedule before its shuffle: no entry exceeds a byte, as none exceeds their sum (R232). -/
theorem unshuffledSchedule_entries (x : Byte) :
    (unshuffledSchedule x).1.toList.map BitVec.toNat =
      (drawEntries 39 Config.maxNumberNoOps x).1 ++ [(drawEntries 39 Config.maxNumberNoOps x).2.1] := by
  have hsum := drawEntries_sum x
  have hlen := drawEntries_length 39 Config.maxNumberNoOps x
  simp only [unshuffledSchedule]
  generalize hl : (drawEntries 39 Config.maxNumberNoOps x).1 ++ [(drawEntries 39 Config.maxNumberNoOps x).2.1] = l at *
  have hlen' : l.length = Config.nDummy := by simp [← hl, hlen]
  have hbyte : ∀ n ∈ l, n % 256 = n := fun n hn => Nat.mod_eq_of_lt
    (Nat.lt_of_le_of_lt (hsum ▸ List.le_sum_of_mem hn) (by decide))
  apply List.ext_getElem
  · simp [hlen']
  · intro i hi hi'
    simpa [hi'] using hbyte _ (List.getElem_mem hi')

/-- The shuffle leaves the total at 100 (R238). -/
theorem scheduleSum_buildSchedule (x : Byte) : scheduleSum (buildSchedule x).1 = Config.maxNumberNoOps := by
  have hperm : (buildSchedule x).1.toList.Perm (unshuffledSchedule x).1.toList :=
    (fisherYates_perm 39 (unshuffledSchedule x).2 (unshuffledSchedule x).1).toList
  rw [scheduleSum, (hperm.map BitVec.toNat).sum_eq, unshuffledSchedule_entries, drawEntries_sum]

/-- No entry exceeds the total of its schedule. -/
theorem entry_le_scheduleSum (t : Vector Byte Config.nDummy) (i : Fin Config.nDummy) : t[i].toNat ≤ scheduleSum t := by
  have hmem : t[i].toNat ∈ t.toList.map BitVec.toNat := List.mem_map_of_mem (by simp)
  exact List.le_sum_of_mem hmem

/-- The access order is a permutation of 0..15 (R233, R269). -/
theorem shuffledOrder_perm (x : Byte) : (shuffledOrder x).1.toList.Perm (List.finRange 16) := by
  have hperm : (shuffledOrder x).1.toList.Perm (Vector.ofFn fun i : Fin 16 => i).toList := (fisherYates_perm 15 x _).toList
  rwa [Vector.toList_ofFn] at hperm

/-- The state with an access order drawn from its PRNG (R233). -/
def State.drawnOrder (s : State) : State := (s.setPrng (shuffledOrder s.prng).2).setPerm (shuffledOrder s.prng).1

theorem shuffleSboxAccess_eq (s : State) : shuffleSboxAccess s = .done s.drawnOrder := rfl

/-! ### The countermeasures' elements -/

/-- The elements that only the drawing commands write are the same, and so is whether they are written (R30, R31, R33,
R34, R36). -/
structure SameCountermeasures (s t : State) : Prop where
  masks : t.masks = s.masks
  msbox : t.msbox = s.msbox
  perm : t.perm = s.perm
  sched : t.sched = s.sched
  masks_written : t.written.masks = s.written.masks
  msbox_written : t.written.msbox = s.written.msbox
  perm_written : t.written.perm = s.written.perm
  sched_written : t.written.sched = s.written.sched

/-- A property of the countermeasures' elements only, which the draws of MASK_INIT, HIDING_INIT and SHUFFLE_SBOX_ACCESS
keep. -/
structure KeptByDraws (P : State → Prop) : Prop where
  congr : ∀ {s t : State}, SameCountermeasures s t → P s → P t
  drawnMasks : ∀ {s : State}, P s → P s.drawnMasks
  drawnSchedule : ∀ {s : State}, P s → P s.drawnSchedule
  drawnOrder : ∀ {s : State}, P s → P s.drawnOrder

namespace SameCountermeasures

theorem refl (s : State) : SameCountermeasures s s := ⟨rfl, rfl, rfl, rfl, rfl, rfl, rfl, rfl⟩

theorem setState (s : State) (m : StateMatrix) : SameCountermeasures s (s.setState m) := { refl s with }

theorem setData (s : State) (d : Block) : SameCountermeasures s (s.setData d) := { refl s with }

theorem setMrk (s : State) (t : Vector Block Config.nRoundKeys) : SameCountermeasures s (s.setMrk t) := { refl s with }

theorem setRk (s : State) (t : Vector Block Config.nRoundKeys) : SameCountermeasures s (s.setRk t) := { refl s with }

theorem raise (s : State) (e : Env) (c : CmdError) : SameCountermeasures s ((s.setEnv e).raise c) := { refl s with }

theorem agentMove {s t : State} (h : s.AgentMove t) : SameCountermeasures s t := by
  obtain ⟨e, r, x, rfl, -⟩ := h
  exact { refl s with }

theorem dummyOperation (s : State) : (dummyOperation s).Ensures (SameCountermeasures s) := by
  obtain ⟨d, -, n, -, h⟩ | h | h := dummyOperation_cases s <;> rw [h]
  · exact ensures_done.2 { refl s with }
  · exact ensures_raised _ _
  · exact ensures_stopped _

theorem layer (linear : Bool) (es : State → List Element) (f : State → StateMatrix) (s : State) :
    (layer linear es f s).Ensures (SameCountermeasures s) := by
  refine ensures_andThen (Q := SameCountermeasures s) ?_ fun u hu => ensures_reading _ _ (ensures_done.2 { hu with })
  unfold dummyPrefix
  split
  · exact dummyOperation s
  · exact ensures_done.2 (refl s)

/-- Of the micro-program's lines only the three that draw write a countermeasure's element (R275). -/
theorem perform {op : MicroOp} (hop : op ≠ .maskInit ∧ op ≠ .hidingInit ∧ op ≠ .shuffleSboxAccess) (s : State) :
    (perform op s).Ensures (SameCountermeasures s) := by
  cases op
  case maskInit | hidingInit | shuffleSboxAccess => simp at hop
  case addRoundKey i => rw [Machine.perform, addRoundKey_eq_layer]; exact layer _ _ _ s
  case invShiftRows => rw [Machine.perform, invShiftRows_eq_layer]; exact layer _ _ _ s
  case invByteSub => rw [Machine.perform, invByteSub_eq_layer]; exact layer _ _ _ s
  case invMixCols => rw [Machine.perform, invMixCols_eq_layer]; exact layer _ _ _ s
  case keyExpand => exact ensures_done.2 (setRk s _)
  case maskSubkeys => exact ensures_reading _ s (ensures_done.2 (setMrk s _))
  case storeState => exact ensures_reading _ s (ensures_done.2 (setData s _))
  case loadState | invMaskState | invRemaskState | invUnmaskState =>
    exact ensures_reading _ s (ensures_done.2 (setState s _))

end SameCountermeasures

namespace KeptByDraws

variable {P : State → Prop} (hP : KeptByDraws P) {s t : State} (hs : P s)

include hP hs

theorem seeded (e : Env) (x : Byte) : P ((s.setEnv e).setPrng x) := hP.congr { SameCountermeasures.refl s with } hs

/-- A line of the micro-program keeps the property: it draws, or leaves the elements as they are (R275). -/
theorem perform (op : MicroOp) : (perform op s).Ensures P := by
  cases op
  case maskInit =>
    exact ensures_seeding (k := fun t => .done t.drawnMasks) s fun e x =>
      ensures_done.2 (hP.drawnMasks (hP.seeded hs e x))
  case hidingInit =>
    exact ensures_seeding (k := fun t => .done t.drawnSchedule) s fun e x =>
      ensures_done.2 (hP.drawnSchedule (hP.seeded hs e x))
  case shuffleSboxAccess =>
    rw [Machine.perform, shuffleSboxAccess_eq]
    exact ensures_done.2 (hP.drawnOrder hs)
  all_goals exact fun t ht => hP.congr (SameCountermeasures.perform (by simp) s t ht) hs

theorem commandEffect (i : Instr) : (commandEffect i s).Ensures P := by
  have hunchanged : (Machine.commandEffect i s).Ensures (SameCountermeasures s) → (Machine.commandEffect i s).Ensures P :=
    fun h t ht => hP.congr (h t ht) hs
  cases i <;> simp only [Machine.commandEffect] at hunchanged ⊢
  case keyExpand | loadState | storeState | invShiftRows | invByteSub | invMixCols | maskInit | maskSubkeys
      | invMaskState | invRemaskState | invUnmaskState | hidingInit | shuffleSboxAccess =>
    exact hP.perform hs _
  case addRoundKey a => exact ensures_operand (P := P) a s fun i => hP.perform hs (.addRoundKey i)
  case decrypt => exact fun t => performAll_keeps (P := P) (fun op u v hu hv => hP.perform hu op v hv) hs
  all_goals apply hunchanged
  case dummyOp => exact SameCountermeasures.dummyOperation s
  case wkey a b | wdata a b => exact ensures_operand a s fun _ => ensures_done.2 { SameCountermeasures.refl s with }
  case rdata a =>
    exact ensures_operand a s fun _ => ensures_reading _ s (ensures_done.2 { SameCountermeasures.refl s with })
  case rotrRow a b =>
    exact ensures_operand a s fun _ => ensures_operand b s fun _ =>
      ensures_reading _ s (ensures_done.2 { SameCountermeasures.refl s with })
  case rdMsbox a => exact ensures_reading _ s (ensures_done.2 { SameCountermeasures.refl s with })
  case prngSeed => exact ensures_seeding s fun _ _ => ensures_done.2 { SameCountermeasures.refl s with }
  all_goals exact ensures_done.2 { SameCountermeasures.refl s with }

/-- A command's effect keeps the property; a raise and an agent's move leave the elements as they are. -/
theorem step (h : step s = .next t) : P t := by
  obtain ⟨i, e, hi⟩ | ⟨e, he⟩ | ⟨u, hu, hmove⟩ := step_effect s
  · have hs' : P (s.setEnv e) := hP.congr { SameCountermeasures.refl s with } hs
    obtain hd | ⟨c, env, rfl⟩ := exec_next_cases (hi.symm.trans h)
    · exact hP.commandEffect hs' i t hd
    · exact hP.congr (SameCountermeasures.raise _ env c) hs'
  · cases he.symm.trans h
    exact hP.congr (SameCountermeasures.raise s e _) hs
  · cases hu.symm.trans h
    exact hP.congr (SameCountermeasures.agentMove hmove) hs

end KeptByDraws

/-! ### Their consistency -/

/-- MASK_INIT makes MCM_IN and MSBOX of the masks it draws (R202, R203). -/
theorem drawnMasks_masksConsistent (s : State) : s.drawnMasks.MasksConsistent where
  pairs _ := drawnMasks_mcmIn s
  msbox_with_masks _ := rfl
  identity _ x := by rw [drawnMasks_msbox]; exact maskedInvSbox_lookup _ _ x

theorem State.MasksConsistent.congr {s t : State} (hs : s.MasksConsistent) (hmasks : t.masks = s.masks)
    (hmsbox : t.msbox = s.msbox) (hwmasks : t.written.masks = s.written.masks)
    (hwmsbox : t.written.msbox = s.written.msbox) : t.MasksConsistent := by
  obtain ⟨hpairs, hwith, hidentity⟩ := hs
  constructor <;> simpa only [hmasks, hmsbox, hwmasks, hwmsbox]

theorem masksConsistent_keptByDraws : KeptByDraws State.MasksConsistent where
  congr h hs := hs.congr h.masks h.msbox h.masks_written h.msbox_written
  drawnMasks _ := drawnMasks_masksConsistent _
  drawnSchedule hs := hs.congr (by rw [drawnSchedule_frame]) (by rw [drawnSchedule_frame])
    (by rw [drawnSchedule_frame]) (by rw [drawnSchedule_frame])
  drawnOrder hs := { hs with }

theorem State.HidingConsistent.congr {s t : State} (hs : s.HidingConsistent) (hperm : t.perm = s.perm)
    (hsched : t.sched = s.sched) (hwperm : t.written.perm = s.written.perm)
    (hwsched : t.written.sched = s.written.sched) : t.HidingConsistent := by
  obtain ⟨hpermutes, htotal, hentries⟩ := hs
  constructor <;> simpa only [hperm, hsched, hwperm, hwsched]

/-- HIDING_INIT draws a schedule with the total 100 under DUMMY_OPS, and keeps SCHED without it (R231, R238). -/
theorem State.HidingConsistent.drawnSchedule {s : State} (hs : s.HidingConsistent) : s.drawnSchedule.HidingConsistent := by
  have hperm : s.drawnSchedule.perm = s.perm := by rw [drawnSchedule_frame]
  have hwperm : s.drawnSchedule.written.perm = s.written.perm := by rw [drawnSchedule_frame]
  cases hd : s.dummyOps with
  | false =>
    refine hs.congr hperm (drawnSchedule_of_not_dummyOps hd).1 hwperm ?_
    rw [drawnSchedule_frame, hd, Bool.or_false]
  | true =>
    have htotal : scheduleSum s.drawnSchedule.sched = Config.maxNumberNoOps := by
      rw [(drawnSchedule_of_dummyOps hd).1, scheduleSum_buildSchedule]
    exact ⟨by rw [hperm, hwperm]; exact hs.perm_permutes, fun _ => htotal,
      fun _ i => htotal ▸ entry_le_scheduleSum s.drawnSchedule.sched i⟩

theorem hidingConsistent_keptByDraws : KeptByDraws State.HidingConsistent where
  congr h hs := hs.congr h.perm h.sched h.perm_written h.sched_written
  drawnMasks hs := { hs with }
  drawnSchedule hs := hs.drawnSchedule
  drawnOrder hs := { hs with perm_permutes := fun _ => shuffledOrder_perm _ }

/-- Settles O57: both are properties of the countermeasures' elements that every draw keeps. -/
theorem everyStepKeepsCountermeasuresConsistent : Obligations.EveryStepKeepsCountermeasuresConsistent :=
  ⟨fun _ _ hs h => masksConsistent_keptByDraws.step hs h, fun _ _ hs h => hidingConsistent_keptByDraws.step hs h⟩

end Sys2Proof.Machine
end

section
/-! SUPPORT. O22, O23, O24, O25: the masking commands (R204 to R210), and the masks of a DPA configuration, which cancel. -/

namespace Sys2Proof.Machine

/-! ### A command that reads, then writes -/

/-- A command whose reads are all readable has its effect (R36). -/
theorem exec_of_readable {i : Instr} {s t : State} {es : List Element} (hi : commandEffect i s = reading es s (.done t))
    (hr : ∀ e ∈ es, s.readable e = true) : exec i s = .next t :=
  exec_of_done (hi.trans (reading_of_readable hr _))

/-- Writing STATE leaves what was readable readable. -/
theorem readable_setState {s : State} {e : Element} (h : s.readable e = true) (m : StateMatrix) :
    (s.setState m).readable e = true := by
  cases e
  case state => simp [State.readable, State.holds]
  all_goals exact h

/-- Settles O23: the masked table is written, byte by byte. -/
theorem maskSubkeysMasksEveryByte : Obligations.MaskSubkeysMasksEveryByte := by
  intro w s hw
  refine ⟨decode_eq_ok_of_row (row := ⟨"MASK_SUBKEYS", 0x41, false, false⟩) (by decide) hw rfl, fun hr => ?_⟩
  refine ⟨_, exec_of_readable (i := .maskSubkeys) rfl (by simpa using hr), rfl, fun i j => ?_⟩
  calc (maskedTable s.masks s.rk)[i][j] = (maskRoundKey s.masks s.rk[i])[j] := by rw [maskedTable_get]
    _ = _ := maskRoundKey_get s.masks s.rk[i] j

/-- Settles O25: a readable MSBOX is looked up at A. -/
theorem rdMsboxReadsOneEntry : Obligations.RdMsboxReadsOneEntry := by
  intro w s hw
  exact ⟨decode_eq_ok_of_row (row := ⟨"RD_MSBOX", 0x45, true, false⟩) (by decide) hw rfl,
    fun hr => exec_of_readable rfl (by simpa using hr)⟩

/-- Settles O24: each command XORs its row masks, and XOR with the same masks undoes itself. -/
theorem stateMaskingXorsRowMasks : Obligations.StateMaskingXorsRowMasks := by
  intro w s
  refine ⟨fun h => decode_eq_ok_of_row (row := ⟨"INV_MASK_STATE", 0x42, false, false⟩) (by decide) h rfl,
    fun h => decode_eq_ok_of_row (row := ⟨"INV_REMASK_STATE", 0x43, false, false⟩) (by decide) h rfl,
    fun h => decode_eq_ok_of_row (row := ⟨"INV_UNMASK_STATE", 0x44, false, false⟩) (by decide) h rfl, fun hs hm => ?_⟩
  have hr : ∀ e ∈ [Element.state, .masks], s.readable e = true := by simp [hs, hm]
  refine ⟨⟨_, exec_of_readable (i := .invMaskState) rfl hr, rfl, fun r c => ?_, ?_⟩,
    ⟨_, exec_of_readable (i := .invRemaskState) rfl hr, rfl, fun r c => ?_⟩,
    ⟨_, exec_of_readable (i := .invUnmaskState) rfl hr, rfl, fun r c => ?_⟩⟩
  · simp [Masks.first, BitVec.xor_assoc]
  · have hr' : ∀ e ∈ [Element.state, .masks], (s.setState (xorRows s.masks.first s.state)).readable e = true :=
      fun e he => readable_setState (hr e he) _
    exact ⟨_, exec_of_readable (i := .invMaskState) rfl hr', xorRows_xorRows _ s.state⟩
  · simp [Masks.again, BitVec.xor_assoc]
  · simp [Masks.last]

/-! ### Masks under DPA -/

/-- One draw serves as every mask (R204; 90_conflicts.md C2). -/
structure Masks.AllEqual (k : Masks) : Prop where
  sbmOut : k.sbmOut = k.sbmIn
  mcmOut : ∀ r : Fin 4, k.mcmOut[r] = k.sbmIn
  mcmIn : ∀ r : Fin 4, k.mcmIn[r] = k.sbmIn

theorem masksFrom_allEqual (m : Byte) : (masksFrom m m #v[m, m, m, m]).AllEqual := by
  rw [masksFrom, invMixColumn_const]
  exact ⟨rfl, fun r => Vector.getElem_replicate r.isLt, fun r => Vector.getElem_replicate r.isLt⟩

/-- Equal masks cancel in a masked round key (R205). -/
theorem Masks.AllEqual.maskRoundKey_eq {k : Masks} (h : k.AllEqual) (key : Block) : maskRoundKey k key = key := by
  apply Vector.ext
  intro j hj
  calc (maskRoundKey k key)[j] = key[j] ^^^ k.mcmOut[flatRow ⟨j, hj⟩] ^^^ k.sbmIn := maskRoundKey_get k key ⟨j, hj⟩
    _ = key[j] := by rw [h.mcmOut, BitVec.xor_assoc, BitVec.xor_self, BitVec.xor_zero]

theorem Masks.AllEqual.maskedTable_eq {k : Masks} (h : k.AllEqual) (rk : Vector Block Config.nRoundKeys) :
    maskedTable k rk = rk :=
  Vector.ext fun i hi => (maskedTable_get k rk ⟨i, hi⟩).trans (h.maskRoundKey_eq rk[i])

/-- Equal masks cancel in INV_REMASK_STATE (R207). -/
theorem Masks.AllEqual.xorRows_again {k : Masks} (h : k.AllEqual) (m : StateMatrix) : xorRows k.again m = m :=
  xorRows_zero _ m fun r => by rw [Masks.again, h.mcmIn, h.sbmOut, BitVec.xor_self]; rfl

theorem maskedKeys_mrk (s : State) : s.maskedKeys.mrk = maskedTable s.maskedKeys.masks s.maskedKeys.rk := rfl

/-- The drawing of the masks and MASK_SUBKEYS leave STATE as readable as it was. -/
theorem maskedKeys_readable_state (s : State) : s.maskedKeys.readable .state = s.readable .state := by
  simp [State.readable, State.holds, State.maskedKeys, State.seeded]

/-- Settles O22: MASK_INIT draws equal masks under DPA, and they cancel in each round key and in each byte. -/
theorem dpaMasksCancel : Obligations.DpaMasksCancel := by
  intro s hdpa hanswers hstate
  have hinit : exec .maskInit s = .next s.seeded.drawnMasks := exec_seeding_of_answers rfl hanswers
  have hkeys : exec .maskSubkeys s.seeded.drawnMasks = .next s.maskedKeys :=
    exec_of_readable rfl (by simp [State.readable, State.holds])
  have hequal : s.maskedKeys.masks.AllEqual := by
    have hdraw : (drawMasks true s.seed).1.AllEqual := masksFrom_allEqual _
    rw [← hdpa] at hdraw
    exact hdraw
  have hremask : exec .invRemaskState s.maskedKeys
      = .next (s.maskedKeys.setState (xorRows s.maskedKeys.masks.again s.maskedKeys.state)) :=
    exec_of_readable rfl fun e he => by
      obtain rfl | rfl : e = .state ∨ e = .masks := by simpa using he
      · rwa [maskedKeys_readable_state]
      · exact readable_of_holds rfl
  exact ⟨s.maskedKeys, _, by simp [execAll, hinit, hkeys], hequal.sbmOut, fun r => ⟨hequal.mcmOut r, hequal.mcmIn r⟩,
    (maskedKeys_mrk s).trans (hequal.maskedTable_eq _), hremask, hequal.xorRows_again _⟩

end Sys2Proof.Machine
end

section
/-! SUPPORT. O36: the round layers on a masked state. Each maps a state under row masks to its plain image under other row
masks (R206 to R208, R212, R266 to R270). -/

namespace Sys2Proof.Machine

/-! ### The layers under row masks -/

/-- A masked round key moves the row masks by MCM_OUT and SBM_IN (R205, R266). -/
theorem xorRoundKey_xorRows (k : Masks) (key : Block) (mask : Fin 4 → Byte) (m : StateMatrix) :
    xorRoundKey (maskRoundKey k key) (xorRows mask m)
      = xorRows (fun r => mask r ^^^ (k.mcmOut[r] ^^^ k.sbmIn)) (xorRoundKey key m) := by
  apply StateMatrix.ext_get
  intro r c
  simp only [xorRoundKey_get, maskRoundKey_get, flatRow_flatIndex, xorRows_get]
  ac_rfl

/-- One mask for all rows is not moved by the rotation of the rows (R267). -/
theorem shiftRowsRight_xorRows (mask : Byte) (m : StateMatrix) :
    shiftRowsRight (xorRows (fun _ => mask) m) = xorRows (fun _ => mask) (referenceInvShiftRows m) := by
  apply StateMatrix.ext_get
  intro r c
  simp [shiftRowsRight_get, referenceInvShiftRows]

/-- INV_MIX_COLS takes the row masks to their inverse MixColumn image, as it is linear (R203, R270). -/
theorem unmixColumns_xorRows (v : Vector Byte 4) (m : StateMatrix) :
    unmixColumns (xorRows (fun r => v[r]) m) = xorRows (fun r => (invMixColumn v)[r]) (unmixColumns m) := by
  apply StateMatrix.ext_get
  intro r c
  simp only [unmixColumns_get, xorRows_get, invMixColumn_get, ffMul_xor_right]
  ac_rfl

/-- A substitution that takes the mask `a` on its input to `b` on its output does so in every byte (R202). -/
theorem mapBytes_xorRows {f g : Byte → Byte} {a b : Byte} (h : ∀ x, f (x ^^^ a) = g x ^^^ b) (m : StateMatrix) :
    mapBytes f (xorRows (fun _ => a) m) = xorRows (fun _ => b) (mapBytes g m) := by
  apply StateMatrix.ext_get
  intro r c
  simp [h]

/-- In an access order that is a permutation every byte is substituted once (R268, R269). -/
theorem substituteBytes_eq_mapBytes (sub : Byte → Byte) {order : List (Fin 16)} (h : order.Perm (List.finRange 16))
    (m : StateMatrix) : substituteBytes sub order m = mapBytes sub m := by
  apply StateMatrix.ext_get
  intro r c
  have hmem : flatIndex r c ∈ order := h.mem_iff.2 (List.mem_finRange _)
  rw [substituteBytes_get sub (h.nodup_iff.2 (List.nodup_finRange 16)), if_pos hmem, mapBytes_get]

/-- Storing and loading undo each other (R263, R264). -/
theorem matrixOfBlock_blockOfMatrix (m : StateMatrix) : matrixOfBlock (blockOfMatrix m) = m := by
  apply StateMatrix.ext_get
  intro r c
  rw [matrixOfBlock_get, blockOfMatrix_get, flatRow_flatIndex, flatCol_flatIndex]

theorem xorRows_none (m : StateMatrix) : xorRows (fun _ => 0) m = m := xorRows_zero _ m fun _ => rfl

/-! ### The masks in force -/

/-- The masks with CFG.MASKING = 1; without it all are 0. -/
def State.activeMasks (s : State) : Masks := if s.masking then s.masks else masksFrom 0 0 #v[0, 0, 0, 0]

theorem activeMasks_of_masking {s : State} (h : s.masking = true) : s.activeMasks = s.masks := if_pos h

theorem activeMasks_allEqual {s : State} (h : s.masking = false) : s.activeMasks.AllEqual ∧ s.activeMasks.sbmIn = 0 := by
  rw [State.activeMasks, h]
  exact ⟨masksFrom_allEqual 0, rfl⟩

/-- What ADD_ROUND_KEY and the masked S-Box need: the elements they read are written, the round keys are those of KEY, and
with MASKING the masks, MSBOX and MRK belong together (R202, R203, R205, R265). -/
structure State.KeysReady (s : State) : Prop where
  state_written : s.written.state = true
  masks_written : s.masking = true → s.written.masks = true
  msbox_written : s.masking = true → s.written.msbox = true
  mrk_written : s.masking = true → s.written.mrk = true
  rk_eq : s.rk = keyExpand s.key
  mrk_eq : s.masking = true → s.mrk = maskedTable s.masks s.rk
  mask_pairs : s.masking = true → s.masks.mcmIn = invMixColumn s.masks.mcmOut
  msbox_identity : s.masking = true → ∀ x : Byte, maskedLookup s.msbox (x ^^^ s.masks.sbmOut) = invSbox x ^^^ s.masks.sbmIn

/-- What the cipher's lines need of the state they start from: with SHUFFLING and DUMMY_OPS, PERM and SCHED too (R234,
R268, R269). -/
structure State.CipherReady (s : State) : Prop extends s.KeysReady where
  perm_written : s.shuffling = true → s.written.perm = true
  perm_permutes : s.shuffling = true → s.perm.toList.Perm (List.finRange 16)
  sched_written : s.dummyOps = true → s.written.sched = true

namespace State.CipherReady

variable {s : State} (hs : s.CipherReady)

include hs

/-- The round key that ADD_ROUND_KEY uses is KEY's, under the masks in force (R205, R265). -/
theorem roundKey_eq (i : Fin Config.nRoundKeys) :
    s.roundKey i = maskRoundKey s.activeMasks (Machine.roundKey s.key i.val) := by
  have hrk : s.rk[i] = Machine.roundKey s.key i.val := by rw [hs.rk_eq]; simp [keyExpand]
  cases hm : s.masking with
  | true =>
    rw [State.roundKey, if_pos hm, hs.mrk_eq hm, maskedTable_get, hrk, activeMasks_of_masking hm]
  | false =>
    rw [State.roundKey, hm, (activeMasks_allEqual hm).1.maskRoundKey_eq]
    exact hrk

/-- The substitution in use takes SBM_OUT on its input to SBM_IN on its output (R202, R268). -/
theorem substitution_eq (x : Byte) :
    s.substitution (x ^^^ s.activeMasks.sbmOut) = invSbox x ^^^ s.activeMasks.sbmIn := by
  cases hm : s.masking with
  | true =>
    rw [State.substitution, if_pos hm, activeMasks_of_masking hm]
    exact hs.msbox_identity hm x
  | false =>
    obtain ⟨hequal, hzero⟩ := activeMasks_allEqual hm
    rw [State.substitution, hm, hequal.sbmOut, hzero]
    simp

theorem mcmIn_eq : s.activeMasks.mcmIn = invMixColumn s.activeMasks.mcmOut := by
  cases hm : s.masking with
  | true =>
    rw [activeMasks_of_masking hm]
    exact hs.mask_pairs hm
  | false => rw [State.activeMasks, hm]; rfl

/-- The access order in use is a permutation (R269). -/
theorem accessOrder_perm : s.accessOrder.Perm (List.finRange 16) := by
  unfold State.accessOrder
  split
  next hsh => exact hs.perm_permutes hsh
  next => exact List.Perm.refl _

end State.CipherReady

end Sys2Proof.Machine
end

section
/-! SUPPORT. O36: runs of the micro-program's lines between the masking and STORE_STATE, which move the two counters and
STATE only (R235, R265 to R270, R275). -/

namespace Sys2Proof.Machine

/-! ### Between two lines -/

/-- `s` with DCNT, NOPCOUNT and STATE as the cipher's lines have left them. -/
def State.midCipher (s : State) (d : Nat) (n : Word16) (m : StateMatrix) : State := (s.setCounters d n).setState m

/-- The dummy ops before one layer, one or none (R235). -/
def State.prefixCost (s : State) (linear : Bool) : Nat := if s.prefixActive linear then 1 else 0

/-- The no-ops of the `k` schedule entries from `d` on (R234). -/
def State.noOps (s : State) : (d k : Nat) → Word16
  | _, 0 => 0
  | d, k + 1 => (s.sched.getD d 0).setWidth 16 + s.noOps (d + 1) k

theorem State.noOps_add (s : State) (d k l : Nat) : s.noOps d (k + l) = s.noOps d k + s.noOps (d + k) l := by
  induction k generalizing d with
  | zero => simp [State.noOps]
  | succ k ih => rw [Nat.succ_add, State.noOps, State.noOps, ih, Nat.succ_add_eq_add_succ, BitVec.add_assoc]

theorem State.midCipher_self {s : State} (h : s.written.state = true) : s.midCipher s.dcnt s.nopCount s.state = s := by
  have hw : { s.written with state := true } = s.written := by rw [← h]
  exact congrArg (fun w => { s with written := w }) hw

theorem midCipher_dcntAfterPrefix (s : State) (linear : Bool) (d : Nat) (n : Word16) (m : StateMatrix) :
    (s.midCipher d n m).dcntAfterPrefix linear = d + s.prefixCost linear := by
  change (if s.prefixActive linear then d + 1 else d) = d + if s.prefixActive linear then 1 else 0
  split <;> rfl

theorem midCipher_nopCountAfterPrefix (s : State) (linear : Bool) (d : Nat) (n : Word16) (m : StateMatrix) :
    (s.midCipher d n m).nopCountAfterPrefix linear = n + s.noOps d (s.prefixCost linear) := by
  change (if s.prefixActive linear then n + (s.sched.getD d 0).setWidth 16 else n)
    = n + s.noOps d (if s.prefixActive linear then 1 else 0)
  split <;> simp [State.noOps]

/-- From every point that leaves room for `k` dummy ops, the lines `ops` perform `k` of them and map a state under the row
masks `a` to its image by `f` under the row masks `b`. -/
def State.Runs (s : State) (ops : List MicroOp) (k : Nat) (a b : Fin 4 → Byte) (f : StateMatrix → StateMatrix) : Prop :=
  ∀ d n m, k = 0 ∨ d + k ≤ 40 →
    performAll ops (s.midCipher d n (xorRows a m)) = .done (s.midCipher (d + k) (n + s.noOps d k) (xorRows b (f m)))

namespace State.Runs

variable {s : State} {p q : List MicroOp} {k l : Nat} {a b c : Fin 4 → Byte} {f g : StateMatrix → StateMatrix}

theorem nil (s : State) (a : Fin 4 → Byte) : s.Runs [] 0 a a id := by
  intro d n m _
  simp [State.noOps]

theorem append (hp : s.Runs p k a b f) (hq : s.Runs q l b c g) : s.Runs (p ++ q) (k + l) a c (g ∘ f) := by
  intro d n m hd
  rw [performAll_append, hp d n m (by omega), andThen_done, hq _ _ _ (by omega), State.noOps_add, Nat.add_assoc,
    BitVec.add_assoc]
  rfl

end State.Runs

/-! ### The lines between the masking and STORE_STATE -/

/-- The rounds `n` to 1, by number (R275). -/
def roundNumbers : Nat → List (Fin Config.nRoundKeys)
  | 0 => []
  | n + 1 => Fin.ofNat Config.nRoundKeys (n + 1) :: roundNumbers n

/-- The micro-program's lines after the access order is drawn and before STORE_STATE (R275). -/
def roundLines (masking : Bool) : List MicroOp :=
  let first : List MicroOp := [.addRoundKey 10] ++ [.invShiftRows, .invByteSub]
  let rounds : List MicroOp := (roundNumbers 9).flatMap (microRound masking)
  let unmask : List MicroOp := if masking then [.invUnmaskState] else []
  first ++ (rounds ++ ([.addRoundKey 0] ++ unmask))

/-- They are the cipher's lines, but for the access order and STORE_STATE (R275). -/
theorem cipherLines_eq (masking shuffling : Bool) :
    cipherLines masking shuffling
      = (if shuffling then [.shuffleSboxAccess] else []) ++ (roundLines masking ++ [.storeState]) := by
  cases masking <;> cases shuffling <;> rfl

/-- The plain inverse cipher on the state matrix (R275 with CFG = 0). -/
def inverseCipher (key : Block) (m : StateMatrix) : StateMatrix :=
  xorRoundKey (roundKey key 0)
    (referenceInvRounds key 9 (mapBytes invSbox (referenceInvShiftRows (xorRoundKey (roundKey key 10) m))))

theorem referenceDecrypt_eq (key data : Block) :
    referenceDecrypt key data = blockOfMatrix (inverseCipher key (matrixOfBlock data)) := rfl

namespace State.CipherReady

variable {s : State} (hs : s.CipherReady)

include hs

theorem prefixReady {linear : Bool} {d : Nat} (hd : s.prefixCost linear = 0 ∨ d + s.prefixCost linear ≤ 40)
    (n : Word16) (m : StateMatrix) : (s.midCipher d n m).PrefixReady linear := by
  intro ha
  have hactive : s.prefixActive linear = true := ha
  have hcost : s.prefixCost linear = 1 := if_pos hactive
  exact ⟨show d < 40 by omega, readable_of_holds (hs.sched_written (dummyOps_of_prefixActive hactive))⟩

/-- A layer command between two lines: its dummy op, and its map of STATE (R235, R265 to R270). -/
theorem runs_layer {op : MicroOp} {linear : Bool} {es : State → List Element} {F : State → StateMatrix}
    {a b : Fin 4 → Byte} {f : StateMatrix → StateMatrix} (hop : ∀ t, perform op t = layer linear es F t)
    (hes : ∀ d n m, ∀ e ∈ es (s.midCipher d n m), (s.midCipher d n m).holds e = true)
    (hF : ∀ d n m, F (s.midCipher d n (xorRows a m)) = xorRows b (f m)) :
    s.Runs [op] (s.prefixCost linear) a b f := by
  intro d n m hd
  have hmoved : (s.midCipher d n (xorRows a m)).setCounters ((s.midCipher d n (xorRows a m)).dcntAfterPrefix linear)
      ((s.midCipher d n (xorRows a m)).nopCountAfterPrefix linear)
        = s.midCipher (d + s.prefixCost linear) (n + s.noOps d (s.prefixCost linear)) (xorRows a m) := by
    rw [midCipher_dcntAfterPrefix, midCipher_nopCountAfterPrefix]
    rfl
  rw [performAll_cons, hop, layer, dummyPrefix, dummyPrefix_of_ready (hs.prefixReady hd n _), andThen_done, hmoved,
    reading_of_readable fun e he => readable_of_holds (hes _ _ _ e he), hF]
  rfl

theorem runs_addRoundKey (i : Fin Config.nRoundKeys) (a : Fin 4 → Byte) :
    s.Runs [.addRoundKey i] (s.prefixCost true) a
      (fun r => a r ^^^ (s.activeMasks.mcmOut[r] ^^^ s.activeMasks.sbmIn)) (xorRoundKey (Machine.roundKey s.key i.val)) := by
  refine hs.runs_layer (addRoundKey_eq_layer i) (fun d n m e he => ?_) fun d n m => ?_
  · change e ∈ (if s.masking then [Element.mrk, .state] else [.state]) at he
    split at he
    next hm =>
      obtain rfl | rfl : e = .mrk ∨ e = .state := by simpa using he
      · exact hs.mrk_written hm
      · rfl
    next => rw [List.mem_singleton.1 he]; rfl
  · rw [← xorRoundKey_xorRows, ← hs.roundKey_eq i]
    rfl

theorem runs_invShiftRows (a : Byte) :
    s.Runs [.invShiftRows] (s.prefixCost true) (fun _ => a) (fun _ => a) referenceInvShiftRows :=
  hs.runs_layer invShiftRows_eq_layer (fun d n m e he => by rw [List.mem_singleton.1 he]; rfl)
    fun d n m => shiftRowsRight_xorRows a m

theorem runs_invByteSub :
    s.Runs [.invByteSub] (s.prefixCost false) (fun _ => s.activeMasks.sbmOut) (fun _ => s.activeMasks.sbmIn)
      (mapBytes invSbox) := by
  refine hs.runs_layer invByteSub_eq_layer (fun d n m e he => ?_) fun d n m => ?_
  · change e ∈ (if s.shuffling then [Element.perm] else []) ++ [.state] ++ (if s.masking then [.msbox] else []) at he
    obtain ⟨hsh, rfl⟩ | rfl | ⟨hm, rfl⟩ :
        s.shuffling = true ∧ e = .perm ∨ e = .state ∨ s.masking = true ∧ e = .msbox := by
      simpa [or_assoc] using he
    · exact hs.perm_written hsh
    · rfl
    · exact hs.msbox_written hm
  · rw [← mapBytes_xorRows hs.substitution_eq]
    exact substituteBytes_eq_mapBytes _ hs.accessOrder_perm _

theorem runs_invMixCols :
    s.Runs [.invMixCols] (s.prefixCost true) s.activeMasks.last (fun r => s.activeMasks.mcmIn[r]) unmixColumns :=
  hs.runs_layer invMixCols_eq_layer (fun d n m e he => by rw [List.mem_singleton.1 he]; rfl) fun d n m => by
    rw [hs.mcmIn_eq]
    exact unmixColumns_xorRows _ m

/-- A masking command between two lines XORs its row masks into those of STATE (R207, R208). -/
theorem runs_rowMasks (hm : s.masking = true) {op : MicroOp} {mask : Masks → Fin 4 → Byte}
    (hop : ∀ t, perform op t = reading [.state, .masks] t (.done (t.setState (xorRows (mask t.masks) t.state))))
    {a b : Fin 4 → Byte} (hmask : ∀ r, a r ^^^ mask s.masks r = b r) : s.Runs [op] 0 a b id := by
  intro d n m _
  have hread : ∀ e ∈ [Element.state, .masks], (s.midCipher d n (xorRows a m)).readable e = true := by
    intro e he
    obtain rfl | rfl : e = .state ∨ e = .masks := by simpa using he
    · exact readable_of_holds rfl
    · exact readable_of_holds (hs.masks_written hm)
  have hxor : xorRows (mask s.masks) (xorRows a m) = xorRows b m := by
    apply StateMatrix.ext_get
    intro r c
    rw [xorRows_get, xorRows_get, xorRows_get, BitVec.xor_assoc, hmask]
  calc performAll [op] (s.midCipher d n (xorRows a m))
      = .done (s.midCipher d n (xorRows (mask s.masks) (xorRows a m))) := by
        rw [performAll_cons, hop, reading_of_readable hread]
        rfl
    _ = .done (s.midCipher (d + 0) (n + s.noOps d 0) (xorRows b m)) := by
        rw [hxor]
        simp [State.noOps]

/-- INV_REMASK_STATE, where the micro-program has it, moves the row masks from MCM_IN to SBM_OUT (R207). -/
theorem runs_remask :
    s.Runs (if s.masking then [.invRemaskState] else []) 0 (fun r => s.activeMasks.mcmIn[r])
      (fun _ => s.activeMasks.sbmOut) id := by
  cases hm : s.masking with
  | true =>
    rw [activeMasks_of_masking hm]
    exact hs.runs_rowMasks hm (mask := Masks.again) (fun _ => rfl) fun r => byte_xor_cancel_left _ _
  | false =>
    obtain ⟨hequal, -⟩ := activeMasks_allEqual hm
    have hmasks : (fun r => s.activeMasks.mcmIn[r]) = fun _ : Fin 4 => s.activeMasks.sbmOut :=
      funext fun r => (hequal.mcmIn r).trans hequal.sbmOut.symm
    rw [hmasks]
    exact State.Runs.nil s _

/-- INV_UNMASK_STATE, where the micro-program has it, takes MCM_OUT off the rows (R208). -/
theorem runs_unmask :
    s.Runs (if s.masking then [.invUnmaskState] else []) 0 s.activeMasks.last (fun _ => 0) id := by
  cases hm : s.masking with
  | true =>
    rw [activeMasks_of_masking hm]
    exact hs.runs_rowMasks hm (mask := Masks.last) (fun _ => rfl) fun r => BitVec.xor_self
  | false =>
    obtain ⟨hequal, hzero⟩ := activeMasks_allEqual hm
    have hmasks : s.activeMasks.last = fun _ => 0 := funext fun r => (hequal.mcmOut r).trans hzero
    rw [hmasks]
    exact State.Runs.nil s _

/-! ### The rounds -/

/-- INV_SHIFT_ROWS and INV_BYTE_SUB, which end each round, take SBM_OUT to SBM_IN. -/
theorem runs_shift_sub :
    s.Runs [.invShiftRows, .invByteSub] (s.prefixCost true + s.prefixCost false) (fun _ => s.activeMasks.sbmOut)
      (fun _ => s.activeMasks.sbmIn) (mapBytes invSbox ∘ referenceInvShiftRows) :=
  (hs.runs_invShiftRows _).append hs.runs_invByteSub

/-- The first round key takes the masks of INV_MASK_STATE to SBM_OUT (R205, R206). -/
theorem runs_first_key :
    s.Runs [.addRoundKey 10] (s.prefixCost true) s.activeMasks.first (fun _ => s.activeMasks.sbmOut)
      (xorRoundKey (Machine.roundKey s.key 10)) := by
  have h := hs.runs_addRoundKey 10 s.activeMasks.first
  have hmasks : (fun r => s.activeMasks.first r ^^^ (s.activeMasks.mcmOut[r] ^^^ s.activeMasks.sbmIn))
      = fun _ => s.activeMasks.sbmOut := by
    funext r
    rw [Masks.first, BitVec.xor_comm, byte_xor_cancel_left]
  rwa [hmasks] at h

/-- A later round key takes SBM_IN to MCM_OUT (R205). -/
theorem runs_later_key (i : Fin Config.nRoundKeys) :
    s.Runs [.addRoundKey i] (s.prefixCost true) (fun _ => s.activeMasks.sbmIn) s.activeMasks.last
      (xorRoundKey (Machine.roundKey s.key i.val)) := by
  have h := hs.runs_addRoundKey i fun _ => s.activeMasks.sbmIn
  have hmasks : (fun r => s.activeMasks.sbmIn ^^^ (s.activeMasks.mcmOut[r] ^^^ s.activeMasks.sbmIn))
      = s.activeMasks.last := by
    funext r
    rw [Masks.last, BitVec.xor_comm s.activeMasks.mcmOut[r], byte_xor_cancel_left]
  rwa [hmasks] at h

/-- One of the rounds 9 to 1 maps the plain state as the plain inverse cipher does, from the masks SBM_IN to the masks
SBM_IN (R212, R275). -/
theorem runs_round (i : Fin Config.nRoundKeys) :
    s.Runs (microRound s.masking i) (3 * s.prefixCost true + s.prefixCost false) (fun _ => s.activeMasks.sbmIn)
      (fun _ => s.activeMasks.sbmIn)
      fun m => mapBytes invSbox (referenceInvShiftRows (unmixColumns (xorRoundKey (Machine.roundKey s.key i.val) m))) := by
  have h := (((hs.runs_later_key i).append hs.runs_invMixCols).append hs.runs_remask).append hs.runs_shift_sub
  have hcost : 3 * s.prefixCost true + s.prefixCost false
      = s.prefixCost true + s.prefixCost true + 0 + (s.prefixCost true + s.prefixCost false) := by omega
  rw [hcost]
  exact h

/-- The rounds `n` to 1 compute those of the plain inverse cipher (R212, R275). -/
theorem runs_rounds {n : Nat} (hn : n ≤ 10) :
    s.Runs ((roundNumbers n).flatMap (microRound s.masking)) (n * (3 * s.prefixCost true + s.prefixCost false))
      (fun _ => s.activeMasks.sbmIn) (fun _ => s.activeMasks.sbmIn) (referenceInvRounds s.key n) := by
  induction n with
  | zero => rw [Nat.zero_mul]; exact State.Runs.nil s _
  | succ n ih =>
    have hround := hs.runs_round (Fin.ofNat Config.nRoundKeys (n + 1))
    have hval : (Fin.ofNat Config.nRoundKeys (n + 1)).val = n + 1 := Nat.mod_eq_of_lt (by simp only [Config.nRoundKeys]; omega)
    rw [hval] at hround
    rw [Nat.succ_mul, Nat.add_comm (n * _)]
    exact hround.append (ih (by omega))

/-- The lines between the masking and STORE_STATE compute the plain inverse cipher, with 30 dummy ops before linear layers
and 10 before INV_BYTE_SUB (R212, R235, R236). -/
theorem runs_cipher :
    s.Runs (roundLines s.masking) (30 * s.prefixCost true + 10 * s.prefixCost false) s.activeMasks.first (fun _ => 0)
      (inverseCipher s.key) := by
  have h := (hs.runs_first_key.append hs.runs_shift_sub).append
    ((hs.runs_rounds (n := 9) (by decide)).append ((hs.runs_later_key 0).append hs.runs_unmask))
  have hcost : 30 * s.prefixCost true + 10 * s.prefixCost false
      = s.prefixCost true + (s.prefixCost true + s.prefixCost false)
        + (9 * (3 * s.prefixCost true + s.prefixCost false) + (s.prefixCost true + 0)) := by omega
  rw [hcost]
  exact h

end State.CipherReady

end Sys2Proof.Machine
end

section
/-! SUPPORT. O36: DECRYPT's lines before the rounds (R275), what the whole micro-program leaves unchanged, and the state
it ends in. -/

namespace Sys2Proof.Machine

/-! ### What DECRYPT leaves unchanged -/

/-- What the masking lines write (R201, R205, R206). -/
theorem masked_frame (s : State) :
    s.masked = { s with
      prng := s.seeded.drawnMasks.prng, masks := s.seeded.drawnMasks.masks, msbox := s.seeded.drawnMasks.msbox
      mrk := maskedTable s.seeded.drawnMasks.masks s.rk, state := xorRows s.seeded.drawnMasks.masks.first s.state
      env := s.env.afterConversions 8
      written := { s.written with state := true, mrk := true, masks := true, msbox := true } } := by
  unfold State.masked State.maskedKeys
  rw [drawnMasks_frame]
  rfl

/-- The elements that no line of the micro-program writes are the same, and so are those of the countermeasures that CFG
does not select (R275). -/
structure SameUnselected (s t : State) : Prop where
  cfg : t.cfg = s.cfg
  status : t.status = s.status
  res : t.res = s.res
  key : t.key = s.key
  xcvr : t.xcvr = s.xcvr
  params : t.params = s.params
  masking_off : s.masking = false → t.mrk = s.mrk ∧ t.masks = s.masks ∧ t.msbox = s.msbox
  shuffling_off : s.shuffling = false → t.perm = s.perm
  dummyOps_off : s.dummyOps = false → t.sched = s.sched
  prng_unused : s.masking = false → s.shuffling = false → s.dummyOps = false → t.prng = s.prng
  counters_unused : s.shuffling = false → s.dummyOps = false → t.dcnt = s.dcnt ∧ t.nopCount = s.nopCount

namespace SameUnselected

variable {s t u : State}

theorem refl (s : State) : SameUnselected s s :=
  ⟨rfl, rfl, rfl, rfl, rfl, rfl, fun _ => ⟨rfl, rfl, rfl⟩, fun _ => rfl, fun _ => rfl, fun _ _ _ => rfl,
    fun _ _ => ⟨rfl, rfl⟩⟩

theorem masking (h : SameUnselected s t) : t.masking = s.masking := congrArg (·.getLsbD 0) h.cfg

theorem shuffling (h : SameUnselected s t) : t.shuffling = s.shuffling := congrArg (·.getLsbD 1) h.cfg

theorem dummyOps (h : SameUnselected s t) : t.dummyOps = s.dummyOps := congrArg (·.getLsbD 2) h.cfg

theorem trans (h : SameUnselected s t) (k : SameUnselected t u) : SameUnselected s u where
  cfg := k.cfg.trans h.cfg
  status := k.status.trans h.status
  res := k.res.trans h.res
  key := k.key.trans h.key
  xcvr := k.xcvr.trans h.xcvr
  params := k.params.trans h.params
  masking_off hm := by
    obtain ⟨hmrk, hmasks, hmsbox⟩ := h.masking_off hm
    obtain ⟨kmrk, kmasks, kmsbox⟩ := k.masking_off (h.masking.trans hm)
    exact ⟨kmrk.trans hmrk, kmasks.trans hmasks, kmsbox.trans hmsbox⟩
  shuffling_off hsh := (k.shuffling_off (h.shuffling.trans hsh)).trans (h.shuffling_off hsh)
  dummyOps_off hd := (k.dummyOps_off (h.dummyOps.trans hd)).trans (h.dummyOps_off hd)
  prng_unused hm hsh hd := (k.prng_unused (h.masking.trans hm) (h.shuffling.trans hsh) (h.dummyOps.trans hd)).trans
    (h.prng_unused hm hsh hd)
  counters_unused hsh hd := by
    obtain ⟨hdcnt, hnops⟩ := h.counters_unused hsh hd
    obtain ⟨kdcnt, knops⟩ := k.counters_unused (h.shuffling.trans hsh) (h.dummyOps.trans hd)
    exact ⟨kdcnt.trans hdcnt, knops.trans hnops⟩

theorem setRk (s : State) (t : Vector Block Config.nRoundKeys) : SameUnselected s (s.setRk t) := { refl s with }

theorem setState (s : State) (m : StateMatrix) : SameUnselected s (s.setState m) := { refl s with }

theorem loaded (s : State) : SameUnselected s s.loaded := (setRk s _).trans (setState _ _)

theorem setData (s : State) (d : Block) : SameUnselected s (s.setData d) := { refl s with }

theorem masked (h : s.masking = true) : SameUnselected s s.masked := by
  rw [masked_frame]
  exact { refl s with
    masking_off := fun hm => by simp [h] at hm
    prng_unused := fun hm => by simp [h] at hm }

theorem hidden (h : (s.shuffling || s.dummyOps) = true) : SameUnselected s s.seeded.drawnSchedule := by
  have hselected : ¬ (s.shuffling = false ∧ s.dummyOps = false) := fun ⟨hsh, hd⟩ => by simp [hsh, hd] at h
  have hsched : s.dummyOps = false → s.seeded.drawnSchedule.sched = s.sched := fun hd =>
    (drawnSchedule_of_not_dummyOps (s := s.seeded) hd).1
  rw [drawnSchedule_frame] at hsched ⊢
  exact { refl s with
    dummyOps_off := hsched
    prng_unused := fun _ hsh hd => absurd ⟨hsh, hd⟩ hselected
    counters_unused := fun hsh hd => absurd ⟨hsh, hd⟩ hselected }

theorem ordered (h : s.shuffling = true) : SameUnselected s s.drawnOrder :=
  { refl s with
    shuffling_off := fun hsh => by simp [h] at hsh
    prng_unused := fun _ hsh => by simp [h] at hsh }

end SameUnselected

/-! ### The lines before the rounds -/

/-- The state after the masking lines, where the micro-program has them. -/
def State.afterMasking (s : State) : State := if s.masking then s.masked else s

/-- The state after HIDING_INIT, where the micro-program has it. -/
def State.afterHiding (s : State) : State := if s.shuffling || s.dummyOps then s.seeded.drawnSchedule else s

/-- The state after SHUFFLE_SBOX_ACCESS, where the micro-program has it. -/
def State.afterOrder (s : State) : State := if s.shuffling then s.drawnOrder else s

/-- The state in which the rounds begin (R275). -/
def State.prepared (s : State) : State := s.loaded.afterMasking.afterHiding.afterOrder

theorem SameUnselected.afterMasking (s : State) : SameUnselected s s.afterMasking := by
  unfold State.afterMasking
  split
  next hm => exact masked hm
  next => exact refl s

theorem SameUnselected.afterHiding (s : State) : SameUnselected s s.afterHiding := by
  unfold State.afterHiding
  split
  next h => exact hidden h
  next => exact refl s

theorem SameUnselected.afterOrder (s : State) : SameUnselected s s.afterOrder := by
  unfold State.afterOrder
  split
  next hsh => exact ordered hsh
  next => exact refl s

theorem SameUnselected.prepared (s : State) : SameUnselected s s.prepared :=
  (((loaded s).trans (afterMasking _)).trans (afterHiding _)).trans (afterOrder _)

theorem afterMasking_env (s : State) : s.afterMasking.env = s.env.afterConversions (if s.masking then 8 else 0) := by
  unfold State.afterMasking
  split
  · exact s.masked_env
  · rfl

theorem afterHiding_env (s : State) :
    s.afterHiding.env = s.env.afterConversions (if s.shuffling || s.dummyOps then 8 else 0) := by
  unfold State.afterHiding
  split
  · rw [drawnSchedule_frame]; rfl
  · rfl

theorem afterOrder_env (s : State) : s.afterOrder.env = s.env := by
  unfold State.afterOrder
  split <;> rfl

/-- The seedings make as many conversions as the micro-program needs (R186, R275). -/
theorem prepared_env (s : State) : s.prepared.env = s.env.afterConversions s.conversionsNeeded := by
  have h := (SameUnselected.loaded s).trans (SameUnselected.afterMasking _)
  rw [State.prepared, afterOrder_env, afterHiding_env, h.shuffling, h.dummyOps, afterMasking_env,
    Env.afterConversions_add]
  rfl

theorem performAll_masking_lines {s : State} (hw : s.written.state = true)
    (h : s.EntropyAnswers (if s.masking then 8 else 0)) :
    performAll (maskingLines s.masking) s = .done s.afterMasking := by
  unfold State.afterMasking
  cases hm : s.masking with
  | true => exact performAll_masking hw (by simpa [hm] using h)
  | false => rfl

theorem performAll_hiding_line {s : State} (h : s.EntropyAnswers (if s.shuffling || s.dummyOps then 8 else 0)) :
    performAll (hidingLines (s.shuffling || s.dummyOps)) s = .done s.afterHiding := by
  unfold State.afterHiding
  cases hh : s.shuffling || s.dummyOps with
  | true =>
    have hinit : hidingInit s = .done s.seeded.drawnSchedule := hidingInit_of_answers (by simpa [hh] using h)
    simp [hidingLines, performAll_cons, perform, hinit]
  | false => rfl

theorem performAll_order_line (s : State) :
    performAll (if s.shuffling then [.shuffleSboxAccess] else []) s = .done s.afterOrder := by
  unfold State.afterOrder
  split <;> rfl

/-- After `k` conversions of `k + n` that answer, `n` are left (R182). -/
theorem State.EntropyAnswers.later {s t : State} {k n : Nat} (h : s.EntropyAnswers (k + n)) (hp : t.params = s.params)
    (he : t.env = s.env.afterConversions k) : t.EntropyAnswers n := by
  intro i hi hc
  rw [he, Env.afterConversions_conversionAt]
  exact h (k + i) (by omega) (hp ▸ hc)

/-- The micro-program's lines before the rounds (R275). -/
def prepareLines (masking shuffling dummyOps : Bool) : List MicroOp :=
  let load : List MicroOp := [.keyExpand, .loadState]
  let order : List MicroOp := if shuffling then [.shuffleSboxAccess] else []
  load ++ (maskingLines masking ++ (hidingLines (shuffling || dummyOps) ++ order))

/-- The micro-program is the lines before the rounds, the rounds, and STORE_STATE (R275). -/
theorem microProgram_eq_rounds (s : State) :
    s.microProgram = prepareLines s.masking s.shuffling s.dummyOps ++ (roundLines s.masking ++ [.storeState]) := by
  rw [microProgram_eq, cipherLines_eq]
  simp only [prepareLines, List.append_assoc]

/-- DECRYPT's lines before the rounds complete (R275). -/
theorem performAll_prepareLines {s : State} (hdata : s.DataReadable) (h : s.EntropyAnswers s.conversionsNeeded) :
    performAll (prepareLines s.masking s.shuffling s.dummyOps) s = .done s.prepared := by
  have hloaded := SameUnselected.loaded s
  have hmasked := SameUnselected.afterMasking s.loaded
  have hsame := hloaded.trans hmasked
  have hhidden := hsame.trans (SameUnselected.afterHiding _)
  have hmask : performAll (maskingLines s.masking) s.loaded = .done s.loaded.afterMasking := by
    have hfirst : s.EntropyAnswers (0 + if s.masking then 8 else 0) := h.mono (by unfold State.conversionsNeeded; omega)
    rw [← hloaded.masking] at hfirst ⊢
    exact performAll_masking_lines (by rw [State.loaded_written]) (hfirst.later hloaded.params s.loaded_env)
  have hhide : performAll (hidingLines (s.shuffling || s.dummyOps)) s.loaded.afterMasking
      = .done s.loaded.afterMasking.afterHiding := by
    rw [← hsame.shuffling, ← hsame.dummyOps]
    refine performAll_hiding_line (State.EntropyAnswers.later (s := s) ?_ hsame.params (afterMasking_env _))
    rw [hsame.shuffling, hsame.dummyOps]
    exact h
  have horder : performAll (if s.shuffling then [.shuffleSboxAccess] else []) s.loaded.afterMasking.afterHiding
      = .done s.prepared := by
    rw [← hhidden.shuffling]
    exact performAll_order_line _
  simp only [prepareLines, performAll_append, performAll_load hdata, andThen_done, hmask, hhide, horder]

/-! ### The state in which the rounds begin -/

/-- Without MASKING the cipher reads RK and INV_SBOX only (R265, R268). -/
theorem keysReady_of_not_masking {s : State} (hm : s.masking = false) (hw : s.written.state = true)
    (hrk : s.rk = keyExpand s.key) : s.KeysReady := by
  have hoff : ¬ s.masking = true := by simp [hm]
  exact ⟨hw, fun h => absurd h hoff, fun h => absurd h hoff, fun h => absurd h hoff, hrk, fun h => absurd h hoff,
    fun h => absurd h hoff, fun h => absurd h hoff⟩

/-- The masking lines make the masks, MSBOX and MRK (R201 to R205). -/
theorem masked_keysReady {s : State} (hrk : s.rk = keyExpand s.key) : s.masked.KeysReady := by
  rw [masked_frame]
  exact {
    state_written := rfl
    masks_written := fun _ => rfl
    msbox_written := fun _ => rfl
    mrk_written := fun _ => rfl
    rk_eq := hrk
    mrk_eq := fun _ => rfl
    mask_pairs := fun _ => drawnMasks_mcmIn _
    msbox_identity := fun _ x => by
      rw [drawnMasks_msbox]
      exact maskedInvSbox_lookup _ _ x }

theorem afterMasking_keysReady {s : State} (hw : s.written.state = true) (hrk : s.rk = keyExpand s.key) :
    s.afterMasking.KeysReady := by
  unfold State.afterMasking
  cases hm : s.masking with
  | true => exact masked_keysReady hrk
  | false => exact keysReady_of_not_masking hm hw hrk

/-- INV_MASK_STATE puts the row masks in force on STATE (R206). -/
theorem afterMasking_state (s : State) : s.afterMasking.state = xorRows s.afterMasking.activeMasks.first s.state := by
  unfold State.afterMasking
  cases hm : s.masking with
  | true =>
    have hactive : s.masked.activeMasks = s.masked.masks :=
      activeMasks_of_masking ((SameUnselected.masked hm).masking.trans hm)
    simp only [if_true]
    rw [hactive, masked_frame]
  | false =>
    obtain ⟨hequal, hzero⟩ := activeMasks_allEqual hm
    change s.state = xorRows s.activeMasks.first s.state
    exact (xorRows_zero _ _ fun r => by rw [Masks.first, hequal.mcmOut, hequal.sbmOut, hzero]; rfl).symm

/-- HIDING_INIT keeps what the masking lines made. -/
theorem State.KeysReady.afterHiding {s : State} (h : s.KeysReady) : s.afterHiding.KeysReady := by
  unfold State.afterHiding
  split
  · rw [drawnSchedule_frame]
    exact { h with }
  · exact h

theorem State.KeysReady.afterOrder {s : State} (h : s.KeysReady) : s.afterOrder.KeysReady := by
  unfold State.afterOrder
  split
  · exact { h with }
  · exact h

theorem afterHiding_state (s : State) :
    s.afterHiding.state = s.state ∧ s.afterHiding.activeMasks = s.activeMasks := by
  unfold State.afterHiding
  split
  · rw [drawnSchedule_frame]
    exact ⟨rfl, rfl⟩
  · exact ⟨rfl, rfl⟩

theorem afterOrder_state (s : State) : s.afterOrder.state = s.state ∧ s.afterOrder.activeMasks = s.activeMasks := by
  unfold State.afterOrder
  split <;> exact ⟨rfl, rfl⟩

/-- With DUMMY_OPS, HIDING_INIT leaves a schedule and a DCNT of 0 (R231, R232). -/
theorem afterHiding_schedule {s : State} (h : s.dummyOps = true) :
    s.afterHiding.written.sched = true ∧ s.afterHiding.dcnt = 0 := by
  rw [State.afterHiding, if_pos (by simp [h]), drawnSchedule_frame]
  exact ⟨Bool.or_eq_true_iff.2 (.inr h), rfl⟩

theorem afterOrder_schedule (s : State) :
    s.afterOrder.written.sched = s.written.sched ∧ s.afterOrder.dcnt = s.dcnt := by
  unfold State.afterOrder
  split <;> exact ⟨rfl, rfl⟩

/-- With SHUFFLING, SHUFFLE_SBOX_ACCESS leaves a permutation (R233). -/
theorem afterOrder_perm {s : State} (h : s.shuffling = true) :
    s.afterOrder.written.perm = true ∧ s.afterOrder.perm.toList.Perm (List.finRange 16) := by
  rw [State.afterOrder, if_pos h]
  exact ⟨rfl, shuffledOrder_perm _⟩

theorem prepared_state (s : State) :
    s.prepared.state = xorRows s.prepared.activeMasks.first (matrixOfBlock s.data) := by
  rw [State.prepared, (afterOrder_state _).1, (afterOrder_state _).2, (afterHiding_state _).1, (afterHiding_state _).2,
    afterMasking_state]
  rfl

/-- A schedule is left for the rounds to consume from its start. -/
theorem prepared_schedule {s : State} (h : s.prepared.dummyOps = true) :
    s.prepared.written.sched = true ∧ s.prepared.dcnt = 0 := by
  have hd : s.loaded.afterMasking.dummyOps = true := by
    rw [← h, ← ((SameUnselected.afterHiding _).trans (SameUnselected.afterOrder _)).dummyOps]
    rfl
  rw [State.prepared, (afterOrder_schedule _).1, (afterOrder_schedule _).2]
  exact afterHiding_schedule hd

/-- The lines before the rounds make all that the rounds need. -/
theorem prepared_cipherReady (s : State) : s.prepared.CipherReady := by
  have hkeys : s.loaded.afterMasking.KeysReady := afterMasking_keysReady rfl rfl
  have hperm (h : s.prepared.shuffling = true) :
      s.prepared.written.perm = true ∧ s.prepared.perm.toList.Perm (List.finRange 16) :=
    afterOrder_perm ((SameUnselected.afterOrder _).shuffling.symm.trans h)
  exact { hkeys.afterHiding.afterOrder with
    perm_written := fun h => (hperm h).1
    perm_permutes := fun h => (hperm h).2
    sched_written := fun h => (prepared_schedule h).1 }

/-! ### DECRYPT -/

/-- The dummy ops of one DECRYPT, 30 before linear layers and 10 before INV_BYTE_SUB (R236, R237). -/
def State.decryptCost (s : State) : Nat := 30 * s.prefixCost true + 10 * s.prefixCost false

theorem decryptCost_of_not_dummyOps {s : State} (h : s.dummyOps = false) : s.decryptCost = 0 := by
  simp [State.decryptCost, State.prefixCost, State.prefixActive, h]

theorem decryptCost_le (s : State) : s.decryptCost ≤ 40 := by
  have hcost (linear : Bool) : s.prefixCost linear ≤ 1 := by unfold State.prefixCost; split <;> decide
  have htrue := hcost true
  have hfalse := hcost false
  unfold State.decryptCost
  omega

/-- The schedule has an entry for each dummy op (R236). -/
theorem decryptCost_fits (s : State) : s.prepared.decryptCost = 0 ∨ s.prepared.dcnt + s.prepared.decryptCost ≤ 40 := by
  cases h : s.prepared.dummyOps with
  | true =>
    right
    rw [(prepared_schedule h).2, Nat.zero_add]
    exact decryptCost_le _
  | false => exact .inl (decryptCost_of_not_dummyOps h)

/-- The state `s` after the rounds, its plain STATE `m` (R235). -/
def State.deciphered (s : State) (m : StateMatrix) : State :=
  s.midCipher (s.dcnt + s.decryptCost) (s.nopCount + s.noOps s.dcnt s.decryptCost) m

theorem deciphered_env (s : State) (m : StateMatrix) : (s.deciphered m).env = s.env := rfl

theorem deciphered_rk (s : State) (m : StateMatrix) : (s.deciphered m).rk = s.rk := rfl

theorem SameUnselected.deciphered (s : State) (m : StateMatrix) : SameUnselected s (s.deciphered m) :=
  { refl s with
    counters_unused := fun _ hd => by
      simp [State.deciphered, State.midCipher, decryptCost_of_not_dummyOps hd, State.noOps] }

/-- The rounds take the masked block to the plain block's inverse cipher (R212, R275). -/
theorem performAll_roundLines (s : State) :
    performAll (roundLines s.masking) s.prepared
      = .done (s.prepared.deciphered (inverseCipher s.key (matrixOfBlock s.data))) := by
  have hready := prepared_cipherReady s
  have hrun := hready.runs_cipher _ s.prepared.nopCount (matrixOfBlock s.data) (decryptCost_fits s)
  rw [← prepared_state, State.midCipher_self hready.state_written, xorRows_none,
    (SameUnselected.prepared s).masking, (SameUnselected.prepared s).key] at hrun
  exact hrun

/-- The state that DECRYPT leaves (R212, R275). -/
def State.decrypted (s : State) : State :=
  (s.prepared.deciphered (inverseCipher s.key (matrixOfBlock s.data))).setData (referenceDecrypt s.key s.data)

theorem SameUnselected.decrypted (s : State) : SameUnselected s s.decrypted :=
  ((prepared s).trans (deciphered _ _)).trans (setData _ _)

/-- STORE_STATE writes the block of the plain STATE (R264). -/
theorem storeState_deciphered (s : State) :
    storeState (s.prepared.deciphered (inverseCipher s.key (matrixOfBlock s.data))) = .done s.decrypted :=
  reading_of_readable (fun e he => by rw [List.mem_singleton.1 he]; exact readable_of_holds rfl) _

/-- DECRYPT completes where DATA is readable and the conversions answer (R275). -/
theorem exec_decrypt {s : State} (hdata : s.DataReadable) (h : s.EntropyAnswers s.conversionsNeeded) :
    exec .decrypt s = .next s.decrypted := by
  have hstore : performAll [.storeState] (s.prepared.deciphered (inverseCipher s.key (matrixOfBlock s.data)))
      = .done s.decrypted := by
    rw [performAll_cons, perform, storeState_deciphered, andThen_done, performAll_nil]
  have hall : performAll s.microProgram s = .done s.decrypted := by
    rw [microProgram_eq_rounds, performAll_append, performAll_prepareLines hdata h, andThen_done, performAll_append,
      performAll_roundLines, andThen_done, hstore]
  rw [exec_eq_settle, commandEffect, hall, settle_done]

theorem decrypted_data (s : State) : s.decrypted.data = referenceDecrypt s.key s.data := rfl

theorem decrypted_env (s : State) : s.decrypted.env = s.env.afterConversions s.conversionsNeeded := by
  rw [State.decrypted, State.setData_env, deciphered_env, prepared_env]

theorem decrypted_state (s : State) : s.decrypted.state = matrixOfBlock s.decrypted.data := by
  rw [decrypted_data, referenceDecrypt_eq, matrixOfBlock_blockOfMatrix]
  rfl

theorem decrypted_rk (s : State) : s.decrypted.rk = keyExpand s.key := by
  rw [State.decrypted, State.setData_rk, deciphered_rk, (prepared_cipherReady s).rk_eq, (SameUnselected.prepared s).key]

/-- Settles O36: the rounds compute the inverse cipher under the row masks in force, whatever the access order and the
dummy ops, and INV_UNMASK_STATE takes the last masks off. -/
theorem decryptIsTheInverseCipherUnderEveryCfg : Obligations.DecryptIsTheInverseCipherUnderEveryCfg := by
  intro s hdata hanswers
  have hsame := SameUnselected.decrypted s
  exact ⟨s.decrypted, exec_decrypt hdata hanswers, decrypted_data s, decrypted_state s, decrypted_rk s, hsame.cfg,
    hsame.status, hsame.res, hsame.key, hsame.xcvr, hsame.params, decrypted_env s, hsame.masking_off,
    hsame.shuffling_off, hsame.dummyOps_off, hsame.prng_unused, hsame.counters_unused⟩

end Sys2Proof.Machine
end

section
/-! SUPPORT. O27, O28, O29, O32, O33, O34: the commands of hiding (R232 to R234, R238), and the layer commands, whose
reads depend on CFG (R265 to R269). -/

namespace Sys2Proof.Machine

/-! ### The schedule, the access order and the dummy op -/

/-- Settles O27: the shuffles permute the entries drawn, which make up 100, and the indices 0..15. -/
theorem schedulesAndOrdersAreSound : Obligations.SchedulesAndOrdersAreSound := fun x =>
  ⟨scheduleSum_buildSchedule x, Vector.length_toList,
    fun i => (entry_le_scheduleSum _ i).trans (scheduleSum_buildSchedule x).le, shuffledOrder_perm x⟩

/-- SHUFFLE_SBOX_ACCESS makes 15 draws (R233). -/
theorem shuffledOrder_prng (x : Byte) : (shuffledOrder x).2 = prngStep^[15] x := fisherYates_prng 15 x _

/-- At PRNG = 0 every draw is 0, so each swap is with entry 0, and together they rotate the indices (R233). -/
theorem shuffledOrder_zero : ∀ i : Fin 16, (shuffledOrder 0).1[i] = i + 1 := by decide

/-- Settles O28: the order is drawn from PRNG, and it is a permutation. -/
theorem shuffleDrawsAPermutation : Obligations.ShuffleDrawsAPermutation := by
  intro w s hw
  refine ⟨decode_eq_ok_of_row (row := ⟨"SHUFFLE_SBOX_ACCESS", 0x51, false, false⟩) (by decide) hw rfl, s.drawnOrder,
    exec_of_done (shuffleSboxAccess_eq s), ?_, rfl, shuffledOrder_perm s.prng, fun h => ?_⟩
  · rw [← shuffledOrder_prng]
    rfl
  · have hperm : s.drawnOrder.perm = (shuffledOrder 0).1 := by rw [← h]; rfl
    rw [hperm]
    exact shuffledOrder_zero

/-- A dummy op too many sets STATUS bit 3, and nothing else changes (R234, R384). -/
theorem exec_of_scheduleOverrun {i : Instr} {s : State} (h : commandEffect i s = .raised .scheduleOverrun s.env) :
    exec i s = .next { s with status := s.status ||| 0x08 } := by
  rw [exec_eq_settle, h, settle_raised]
  rfl

/-- Settles O29: without DUMMY_OPS, at the end of the schedule, and before it. -/
theorem dummyOpConsumesTheSchedule : Obligations.DummyOpConsumesTheSchedule := by
  intro w s hw
  refine ⟨decode_eq_ok_of_row (row := ⟨"DUMMY_OP", 0x52, false, false⟩) (by decide) hw rfl,
    fun hoff => exec_of_done (dummyOperation_off hoff),
    fun hon hd => exec_of_scheduleOverrun (dummyOperation_overrun hon hd), fun hd hon hr => ?_⟩
  rw [BitVec.ofNat_toNat]
  exact exec_of_done (dummyOperation_consumes hon hd hr)

/-! ### The layer commands -/

/-- The state after a layer's dummy op, where it has one (R234, R235). -/
def State.afterPrefix (s : State) (linear : Bool) : State :=
  s.setCounters (s.dcntAfterPrefix linear) (s.nopCountAfterPrefix linear)

/-- A layer whose dummy op is ready and whose reads are readable moves the counters and writes STATE, and that is all
(R235, R265 to R270). -/
theorem exec_layer_of_readable {i : Instr} {s : State} {linear : Bool} {es : State → List Element}
    {f : State → StateMatrix} (hi : commandEffect i s = layer linear es f s) (hp : s.PrefixReady linear)
    (hr : ∀ e ∈ es (s.afterPrefix linear), s.readable e = true) :
    exec i s = .next ((s.afterPrefix linear).setState (f (s.afterPrefix linear))) := by
  have hread : ∀ e ∈ es (s.afterPrefix linear), (s.afterPrefix linear).readable e = true := fun e he =>
    (readable_setCounters s _ _ e).trans (hr e he)
  refine exec_of_done (hi.trans ?_)
  rw [layer, dummyPrefix, dummyPrefix_of_ready hp, andThen_done]
  exact reading_of_readable hread _

/-- ADD_ROUND_KEY's elements are readable where STATE is and, with MASKING, MRK (R266). -/
theorem roundKeyElements_readable {s : State} (hstate : s.readable .state = true)
    (hmrk : s.masking = true → s.readable .mrk = true) : ∀ e ∈ s.roundKeyElements, s.readable e = true := by
  intro e he
  unfold State.roundKeyElements at he
  split at he
  next hm =>
    obtain rfl | rfl : e = .mrk ∨ e = .state := by simpa using he
    · exact hmrk hm
    · exact hstate
  next => rwa [List.mem_singleton.1 he]

/-- INV_BYTE_SUB's elements are readable where STATE is and, with SHUFFLING, PERM and, with MASKING, MSBOX (R268). -/
theorem byteSubElements_readable {s : State} (hstate : s.readable .state = true)
    (hperm : s.shuffling = true → s.readable .perm = true) (hmsbox : s.masking = true → s.readable .msbox = true) :
    ∀ e ∈ s.byteSubElements, s.readable e = true := by
  intro e he
  obtain ⟨hsh, rfl⟩ | rfl | ⟨hm, rfl⟩ :
      s.shuffling = true ∧ e = .perm ∨ e = .state ∨ s.masking = true ∧ e = .msbox := by
    simpa [State.byteSubElements, or_assoc] using he
  · exact hperm hsh
  · exact hstate
  · exact hmsbox hm

/-- In range, ADD_ROUND_KEY is a layer command (R266). -/
theorem commandEffect_addRoundKey {a : Byte} (ha : a.toNat < 11) (s : State) :
    commandEffect (.addRoundKey a) s =
      layer true State.roundKeyElements (fun t => xorRoundKey (t.roundKey ⟨a.toNat, ha⟩) t.state) s := by
  rw [commandEffect, operand_inRange s _ ha]
  exact addRoundKey_eq_layer _ s

/-- Settles O32: in range ADD_ROUND_KEY is a layer command, and a round number above 10 is IllegalOperand. -/
theorem addRoundKeyXorsTheRoundKey : Obligations.AddRoundKeyXorsTheRoundKey := by
  intro w s hw
  refine ⟨decode_eq_ok_of_row (row := ⟨"ADD_ROUND_KEY", 0x33, true, false⟩) (by decide) hw rfl,
    fun ha hp hstate hmrk => ?_, fun ha => exec_of_illegalOperand ?_,
    fun ha => exec_layer_of_overrun (commandEffect_addRoundKey (Nat.lt_succ_of_le ha) s)⟩
  · exact ⟨_, exec_layer_of_readable (commandEffect_addRoundKey ha s) hp (roundKeyElements_readable hstate hmrk), rfl,
      xorRoundKey_get (s.roundKey ⟨_, ha⟩) s.state⟩
  · rw [commandEffect, operand_outOfRange s _ ha]

/-- Four rotations of a row by r restore it (R267). -/
theorem shiftRowsRight_four_times (m : StateMatrix) :
    shiftRowsRight (shiftRowsRight (shiftRowsRight (shiftRowsRight m))) = m := by
  have hcol : ∀ r c : Fin 4, c - r - r - r - r = c := by decide
  apply StateMatrix.ext_get
  intro r c
  simp only [shiftRowsRight_get, hcol]

/-- Settles O33: INV_SHIFT_ROWS is a layer command, and its rotations by r have an order that divides 4. -/
theorem invShiftRowsRotatesRows : Obligations.InvShiftRowsRotatesRows := by
  intro w s hw
  refine ⟨decode_eq_ok_of_row (row := ⟨"INV_SHIFT_ROWS", 0x34, false, false⟩) (by decide) hw rfl, fun hp hr => ?_,
    exec_layer_of_overrun (invShiftRows_eq_layer s), shiftRowsRight_four_times⟩
  exact ⟨_, exec_layer_of_ready (invShiftRows_eq_layer s) hp (by simpa using hr), rfl, shiftRowsRight_get s.state⟩

/-- Without SHUFFLING the access order is 0..15, and with it PERM (R269). -/
theorem accessOrder_perm {s : State} (h : s.shuffling = true → s.perm.toList.Perm (List.finRange 16)) :
    s.accessOrder.Perm (List.finRange 16) := by
  unfold State.accessOrder
  split
  next hsh => exact h hsh
  next => exact List.Perm.refl _

/-- The substitution is a lookup in MSBOX with MASKING, else in INV_SBOX (R209, R268). -/
theorem substitution_apply (s : State) (x : Byte) :
    s.substitution x = if s.masking then s.msbox[x.toNat] else invSbox x := by
  unfold State.substitution
  split <;> rfl

/-- Settles O34: INV_BYTE_SUB is a layer command, and an order that is a permutation visits every byte once. -/
theorem invByteSubSubstitutesEveryByte : Obligations.InvByteSubSubstitutesEveryByte := by
  intro w s hw
  refine ⟨decode_eq_ok_of_row (row := ⟨"INV_BYTE_SUB", 0x35, false, false⟩) (by decide) hw rfl,
    fun hp hstate hperm hmsbox => ?_, exec_layer_of_overrun (invByteSub_eq_layer s)⟩
  refine ⟨_, exec_layer_of_readable (invByteSub_eq_layer s) hp (byteSubElements_readable hstate hperm hmsbox), rfl,
    fun horder r c => ?_⟩
  calc (substituteBytes s.substitution s.accessOrder s.state).get r c
      = s.substitution (s.state.get r c) := by
        rw [substituteBytes_eq_mapBytes _ (accessOrder_perm horder), mapBytes_get]
    _ = _ := substitution_apply s _

end Sys2Proof.Machine
end

section
/-! SUPPORT. O38: the no-ops that a DECRYPT counts, as a sum of the schedule's entries (R234, R236, R237). -/

namespace Sys2Proof.Machine

/-- The no-ops of `k` entries from `d` on are their sum, modulo 2^16 (R234). -/
theorem State.noOps_eq_sum (s : State) {d k : Nat} (h : d + k ≤ 40) :
    s.noOps d k = BitVec.ofNat 16 (((s.sched.toList.drop d).take k).map BitVec.toNat).sum := by
  induction k generalizing d with
  | zero => simp [State.noOps]
  | succ k ih =>
    have hd : d < Config.nDummy := by simp only [Config.nDummy]; omega
    have hentry : s.sched.getD d 0 = s.sched[d] := by simp [Vector.getD, hd]
    have hdrop : s.sched.toList.drop d = s.sched[d] :: s.sched.toList.drop (d + 1) :=
      List.drop_eq_getElem_cons (by rwa [Vector.length_toList])
    rw [State.noOps, ih (by omega), hentry, hdrop, List.take_succ_cons, List.map_cons, List.sum_cons, BitVec.ofNat_add,
      BitVec.ofNat_toNat]

/-- The first entries of a schedule make up no more than all of them. -/
theorem take_sum_le_scheduleSum (t : Vector Byte Config.nDummy) (k : Nat) :
    ((t.toList.take k).map BitVec.toNat).sum ≤ scheduleSum t := by
  have h : ((t.toList.take k).map BitVec.toNat).Sublist (t.toList.map BitVec.toNat) := (List.take_sublist _ _).map _
  exact h.sum_le_sum fun _ _ => Nat.zero_le _

/-- With DUMMY_OPS, HIDING_INIT clears NOPCOUNT and draws a schedule of 100 no-ops (R231, R238). -/
theorem afterHiding_noOps {s : State} (h : s.dummyOps = true) :
    s.afterHiding.nopCount = 0 ∧ scheduleSum s.afterHiding.sched = 100 := by
  rw [State.afterHiding, if_pos (by simp [h])]
  constructor
  · rw [drawnSchedule_frame]
  · rw [(drawnSchedule_of_dummyOps (s := s.seeded) h).1]
    exact scheduleSum_buildSchedule _

/-- The rounds begin with no no-op counted and 100 in the schedule. -/
theorem prepared_noOps {s : State} (h : s.dummyOps = true) :
    s.prepared.nopCount = 0 ∧ scheduleSum s.prepared.sched = 100 := by
  have hd : s.loaded.afterMasking.dummyOps = true :=
    ((SameUnselected.loaded s).trans (SameUnselected.afterMasking _)).dummyOps.trans h
  unfold State.prepared State.afterOrder
  split <;> exact afterHiding_noOps hd

theorem decrypted_dcnt (s : State) : s.decrypted.dcnt = s.prepared.dcnt + s.prepared.decryptCost := rfl

theorem decrypted_nopCount (s : State) :
    s.decrypted.nopCount = s.prepared.nopCount + s.prepared.noOps s.prepared.dcnt s.prepared.decryptCost := rfl

/-- CFG decides how many dummy ops a DECRYPT performs (R235). -/
theorem decryptCost_congr {s t : State} (h : t.cfg = s.cfg) : t.decryptCost = s.decryptCost := by
  have hactive (linear : Bool) : t.prefixActive linear = s.prefixActive linear := by
    simp only [State.prefixActive, State.dummyOps, State.dpa, h]
  simp only [State.decryptCost, State.prefixCost, hactive]

/-- A DECRYPT with DUMMY_OPS consumes the schedule's first entries, as many as its dummy ops (R234, R236). -/
theorem decrypted_counters {s : State} (h : s.dummyOps = true) :
    s.decrypted.dcnt = s.decryptCost ∧
      s.decrypted.nopCount.toNat = ((s.decrypted.sched.toList.take s.decryptCost).map BitVec.toNat).sum := by
  obtain ⟨hnops, htotal⟩ := prepared_noOps h
  have hsame := SameUnselected.prepared s
  have hcost : s.prepared.decryptCost = s.decryptCost := decryptCost_congr hsame.cfg
  have hdcnt : s.prepared.dcnt = 0 := (prepared_schedule (hsame.dummyOps.trans h)).2
  have hcount : s.decrypted.nopCount = s.prepared.noOps 0 s.decryptCost := by
    rw [decrypted_nopCount, hnops, hdcnt, hcost]
    exact BitVec.zero_add _
  have hsum := take_sum_le_scheduleSum s.prepared.sched s.decryptCost
  constructor
  · rw [decrypted_dcnt, hdcnt, hcost, Nat.zero_add]
  · rw [hcount, State.noOps_eq_sum _ (by rw [Nat.zero_add]; exact decryptCost_le s), List.drop_zero]
    exact Nat.mod_eq_of_lt (by omega)

/-- 40 dummy ops without DPA (R236). -/
theorem decryptCost_of_not_dpa {s : State} (h : s.dummyOps = true) (hdpa : s.dpa = false) : s.decryptCost = 40 := by
  simp [State.decryptCost, State.prefixCost, State.prefixActive, h, hdpa]

/-- Under DPA the ten of INV_BYTE_SUB are left (R237). -/
theorem decryptCost_of_dpa {s : State} (h : s.dummyOps = true) (hdpa : s.dpa = true) : s.decryptCost = 10 := by
  simp [State.decryptCost, State.prefixCost, State.prefixActive, h, hdpa]

/-- Settles O38: all 40 entries are consumed, which make up 100, or under DPA the first ten. -/
theorem decryptConsumesTheSchedule : Obligations.DecryptConsumesTheSchedule := by
  intro s h hdata hanswers
  obtain ⟨hdcnt, hcount⟩ := decrypted_counters h
  refine ⟨s.decrypted, exec_decrypt hdata hanswers, fun hdpa => ?_, fun hdpa => ?_⟩
  · rw [decryptCost_of_not_dpa h hdpa] at hdcnt hcount
    have htotal : s.decrypted.nopCount.toNat = 100 := by
      rw [hcount, List.take_of_length_le (by simp [Config.nDummy])]
      exact (prepared_noOps h).2
    exact ⟨hdcnt, BitVec.eq_of_toNat_eq htotal⟩
  · rw [decryptCost_of_dpa h hdpa] at hdcnt hcount
    exact ⟨hdcnt, hcount⟩

end Sys2Proof.Machine
end

section
/-! SUPPORT. O39: DECRYPT_UNROLLED's commands one after another (R109, R276), against the micro-program's lines. -/

namespace Sys2Proof.Machine

/-- The command of a line has the line's effect (R275). -/
theorem commandEffect_toInstr (op : MicroOp) (s : State) : commandEffect op.toInstr s = perform op s := by
  cases op
  case addRoundKey i => exact operand_indexByte (by decide) i s fun i => perform (.addRoundKey i) s
  all_goals rfl

/-- The commands of lines that complete come to the state that the lines leave (R276). -/
theorem execAll_of_performAll_done {ops : List MicroOp} {s t : State} (h : performAll ops s = .done t) :
    execAll (ops.map MicroOp.toInstr) s = .next t := by
  induction ops generalizing s with
  | nil =>
    obtain rfl : s = t := by simpa using h
    rfl
  | cons op rest ih =>
    obtain ⟨u, hop, hrest⟩ := andThen_eq_done_iff.1 (performAll_cons op rest s ▸ h)
    rw [List.map_cons, execAll, exec_of_done ((commandEffect_toInstr op s).trans hop)]
    exact ih hrest

/-- The micro-program completes where DATA is readable and the conversions answer (R275). -/
theorem performAll_microProgram {s : State} (hdata : s.DataReadable) (h : s.EntropyAnswers s.conversionsNeeded) :
    performAll s.microProgram s = .done s.decrypted := by
  rw [microProgram_eq_rounds, performAll_append, performAll_prepareLines hdata h, andThen_done, performAll_append,
    performAll_roundLines, andThen_done, performAll_cons, perform, storeState_deciphered, andThen_done, performAll_nil]

/-- Settles O39: no line of DECRYPT raises or stops, so its commands, one by one, leave the state that it leaves. -/
theorem unrolledDecryptionEqualsDecrypt : Obligations.UnrolledDecryptionEqualsDecrypt := by
  intro s hdata hanswers
  rw [exec_decrypt hdata hanswers]
  exact execAll_of_performAll_done (performAll_microProgram hdata hanswers)

end Sys2Proof.Machine
end

section
/-! SUPPORT. O37: the plain inverse cipher undoes the forward cipher, layer by layer (R158, R260, R275, R277; log entry
18). -/

namespace Sys2Proof.Machine

/-! ### The layers -/

theorem xorRoundKey_xorRoundKey (k : Block) (m : StateMatrix) : xorRoundKey k (xorRoundKey k m) = m := by
  apply StateMatrix.ext_get
  intro r c
  rw [xorRoundKey_get, xorRoundKey_get, BitVec.xor_assoc, BitVec.xor_self, BitVec.xor_zero]

/-- The inverse S-Box after the inverse ShiftRows undoes ShiftRows after the S-Box (R156, R157, R267). -/
theorem invSub_invShift_shift_sub (m : StateMatrix) :
    mapBytes invSbox (referenceInvShiftRows (shiftRowsLeft (mapBytes sbox m))) = m := by
  apply StateMatrix.ext_get
  intro r c
  simp only [mapBytes_get, referenceInvShiftRows, shiftRowsLeft, StateMatrix.get_ofFn, sub_add_cancel, invSbox_sbox]

/-- IMCM times the forward matrix is the identity (R158). -/
theorem imcm_mix_entry : ∀ r k : Fin 4,
    ffMul (imcmTable.get r 0) (mixTable.get 0 k) ^^^ ffMul (imcmTable.get r 1) (mixTable.get 1 k)
      ^^^ ffMul (imcmTable.get r 2) (mixTable.get 2 k) ^^^ ffMul (imcmTable.get r 3) (mixTable.get 3 k)
      = if r = k then 1 else 0 := by decide

/-- What byte `k` of a column contributes to byte `r` of the column mixed and unmixed. -/
theorem ffMul_imcm_mix (r k : Fin 4) (x : Byte) :
    ffMul (imcmTable.get r 0) (ffMul (mixTable.get 0 k) x) ^^^ ffMul (imcmTable.get r 1) (ffMul (mixTable.get 1 k) x)
      ^^^ ffMul (imcmTable.get r 2) (ffMul (mixTable.get 2 k) x) ^^^ ffMul (imcmTable.get r 3) (ffMul (mixTable.get 3 k) x)
      = if r = k then x else 0 := by
  simp only [← ffMul_assoc, ← ffMul_xor_left, imcm_mix_entry]
  split
  next => exact one_ffMul x
  next => exact zero_ffMul x

theorem mixColumns_get (m : StateMatrix) (r c : Fin 4) :
    (mixColumns m).get r c = ffMul (mixTable.get r 0) (m.get 0 c) ^^^ ffMul (mixTable.get r 1) (m.get 1 c)
      ^^^ ffMul (mixTable.get r 2) (m.get 2 c) ^^^ ffMul (mixTable.get r 3) (m.get 3 c) :=
  StateMatrix.get_ofFn _ r c

/-- InvMixColumns undoes MixColumns (R158). -/
theorem unmixColumns_mixColumns (m : StateMatrix) : unmixColumns (mixColumns m) = m := by
  apply StateMatrix.ext_get
  intro r c
  calc (unmixColumns (mixColumns m)).get r c
      = (if r = 0 then m.get 0 c else 0) ^^^ (if r = 1 then m.get 1 c else 0)
          ^^^ (if r = 2 then m.get 2 c else 0) ^^^ (if r = 3 then m.get 3 c else 0) := by
        simp only [← ffMul_imcm_mix, unmixColumns_get, mixColumns_get, ffMul_xor_right]
        ac_rfl
    _ = m.get r c := by fin_cases r <;> simp

/-! ### The cipher -/

/-- The inverse rounds `n` to 1 undo the forward rounds 1 to `n`. -/
theorem referenceInvRounds_referenceRounds (k : Block) (n : Nat) (m : StateMatrix) :
    referenceInvRounds k n (referenceRounds k n m) = m := by
  induction n with
  | zero => rfl
  | succ n ih =>
    rw [referenceRounds, referenceInvRounds, xorRoundKey_xorRoundKey, unmixColumns_mixColumns, invSub_invShift_shift_sub, ih]

theorem referenceDecrypt_referenceEncrypt (k p : Block) : referenceDecrypt k (referenceEncrypt k p) = p := by
  rw [referenceDecrypt, referenceEncrypt, matrixOfBlock_blockOfMatrix, xorRoundKey_xorRoundKey, invSub_invShift_shift_sub,
    referenceInvRounds_referenceRounds, xorRoundKey_xorRoundKey, blockOfMatrix_matrixOfBlock]

/-- Settles O37: DECRYPT computes the plain inverse cipher, which undoes the forward cipher. -/
theorem decryptInvertsEncryption : Obligations.DecryptInvertsEncryption := by
  intro s p hp hdata hanswers
  refine ⟨s.decrypted, exec_decrypt hdata hanswers, ?_⟩
  rw [decrypted_data, hp, referenceDecrypt_referenceEncrypt]

end Sys2Proof.Machine
end

section
/-! SUPPORT. O30, O31: the key schedule byte by byte (R260 to R262), and the block loaded into STATE and stored from it
(R263, R264). -/

namespace Sys2Proof.Machine

/-! ### The key schedule -/

/-- A byte read within a block, whatever the default. -/
theorem block_getD (p : Block) {i : Nat} (hi : i < 16) (d : Byte) : p.getD i d = p[i] := by
  simp [Vector.getD, hi]

/-- Byte j of the next round key is that of row j mod 4 and column j div 4 (R12, R260). -/
theorem nextRoundKey_get (rc : Byte) (p : Block) {j : Nat} (hj : j < 16) :
    (nextRoundKey rc p)[j] = scheduleByte rc p ⟨j % 4, Nat.mod_lt _ (by decide)⟩ (j / 4) := Vector.getElem_ofFn hj

/-- Column 0 of the next round key is the previous one's XOR g (R260). -/
theorem nextRoundKey_firstColumn (rc : Byte) (p : Block) (r : Fin 4) :
    (nextRoundKey rc p)[r.val] = p[r.val] ^^^ (scheduleWord rc p)[r] := by
  simp only [nextRoundKey_get, Nat.mod_eq_of_lt r.isLt, Nat.div_eq_of_lt r.isLt, scheduleByte]
  rw [block_getD]

/-- Every later byte is the previous round key's XOR the new byte four before (R260). -/
theorem nextRoundKey_laterColumns (rc : Byte) (p : Block) (j : Fin 12) :
    (nextRoundKey rc p)[j.val + 4] = p[j.val + 4] ^^^ (nextRoundKey rc p)[j.val] := by
  have hindex : 4 * (j.val / 4 + 1) + j.val % 4 = j.val + 4 := by omega
  simp only [nextRoundKey_get, Nat.add_mod_right, Nat.add_div_right _ (show 0 < 4 by decide), scheduleByte, hindex]
  rw [block_getD]

/-- Each round key of the table is the next after the one before it (R260). -/
theorem keyExpand_succ (k : Block) (i : Fin 10) :
    (keyExpand k)[i.val + 1]'(Nat.succ_lt_succ i.isLt)
      = nextRoundKey roundCoefficients[i] ((keyExpand k)[i.val]'(Nat.lt_succ_of_lt i.isLt)) := by
  have hrc : roundCoefficients.getD i.val 0 = roundCoefficients[i] := by simp [Vector.getD]
  simp only [keyExpand, Vector.getElem_ofFn, roundKey, hrc]

/-- Settles O30: each round key is the next after the one before, column 0 by g and the others byte by byte. -/
theorem keyExpandFollowsTheSchedule : Obligations.KeyExpandFollowsTheSchedule := by
  refine ⟨fun k => ⟨rfl, fun i => ?_⟩, by decide, fun w s hw =>
    ⟨decode_eq_ok_of_row (row := ⟨"KEY_EXPAND", 0x30, false, false⟩) (by decide) hw rfl, exec_of_done rfl⟩⟩
  have hnext := keyExpand_succ k i
  obtain ⟨p, hp⟩ : ∃ p, p = (keyExpand k)[i.val]'(Nat.lt_succ_of_lt i.isLt) := ⟨_, rfl⟩
  rw [← hp] at hnext
  have hfirst := nextRoundKey_firstColumn roundCoefficients[i] p
  exact ⟨p, _, hp, hnext.symm, hfirst 0, hfirst 1, hfirst 2, hfirst 3, nextRoundKey_laterColumns _ p⟩

/-! ### Load and store -/

/-- Settles O31: the block is moved by its flat indices, so a load and a store leave DATA as it was. -/
theorem loadAndStoreAreColumnMajor : Obligations.LoadAndStoreAreColumnMajor := by
  intro w s
  refine ⟨fun h => decode_eq_ok_of_row (row := ⟨"LOAD_STATE", 0x31, false, false⟩) (by decide) h rfl,
    fun h => decode_eq_ok_of_row (row := ⟨"STORE_STATE", 0x32, false, false⟩) (by decide) h rfl,
    fun hdata => ?_, fun hstate => ?_⟩
  · have hloaded : (s.setState (matrixOfBlock s.data)).readable .state = true := readable_of_holds rfl
    exact ⟨_, _, exec_of_readable (i := .loadState) rfl hdata.dataElements_readable, rfl, matrixOfBlock_get s.data,
      exec_of_readable (i := .storeState) rfl (by simpa using hloaded), blockOfMatrix_matrixOfBlock s.data⟩
  · refine ⟨_, exec_of_readable (i := .storeState) rfl (by simpa using hstate), rfl, fun r c => ?_⟩
    calc (blockOfMatrix s.state)[flatIndex r c] = s.state.get (flatRow (flatIndex r c)) (flatCol (flatIndex r c)) :=
          blockOfMatrix_get _ _
      _ = s.state.get r c := by rw [flatRow_flatIndex, flatCol_flatIndex]

end Sys2Proof.Machine
end

section
/-! SUPPORT. O41 to O44, O46, O47: what each step of the transceiver comes to, branch by branch (R300 to R316). -/

namespace Sys2Proof.Machine

/-! ### The frame and the foreground -/

/-- The frame's data bits follow its start bit, LSB first (R301). -/
theorem frameBit_succ (b : Byte) {k : Nat} (hk : k < 8) : frameBit b (k + 1) = b.getLsbD k := by
  rw [frameBit, if_neg k.succ_ne_zero, if_pos (Nat.succ_le_of_lt hk), Nat.add_sub_cancel]

section

variable {x : Xcvr} (p : Params)

theorem txBitStep_next (h : x.txIdx < 10) :
    txBitStep p x =
      { x with txIdx := x.txIdx + 1, outputBit := frameBit x.txb (x.txIdx + 1), bitSent := false } := if_pos h

theorem txBitStep_stop (h : x.txIdx = 10) :
    txBitStep p x = { x with dir := .input, ocr := errMatch p, checkErrors := true, fg := .txCheck } :=
  if_neg (by omega)

theorem txCheckStep_ack (h : x.errorBit = true) : txCheckStep p x = { x with trun := false, fg := .idle } := if_pos h

theorem txCheckStep_nack (h : x.errorBit = false) : txCheckStep p x = txStart p x :=
  if_neg (by rw [h]; exact Bool.false_ne_true)

end

section

variable {s : State}

theorem foregroundStep_disabled (h : s.xcvr.foregroundEnabled = false) : foregroundStep s = s := by
  rw [foregroundStep, h, if_neg Bool.false_ne_true]

theorem foregroundStep_txBit (hfg : s.xcvr.fg = .txBit) (h : s.xcvr.bitSent = true) :
    foregroundStep s = s.setXcvr (txBitStep s.params s.xcvr) := by
  simp only [foregroundStep, Xcvr.foregroundEnabled, foregroundAct, hfg, h, if_true]

theorem foregroundStep_txCheck (hfg : s.xcvr.fg = .txCheck) (h : s.xcvr.checkErrors = false) :
    foregroundStep s = s.setXcvr (txCheckStep s.params s.xcvr) := by
  simp only [foregroundStep, Xcvr.foregroundEnabled, foregroundAct, hfg, h, Bool.not_false, if_true]

theorem foregroundStep_rxWait (hfg : s.xcvr.fg = .rxWait) (h : s.xcvr.byteReceived = true) :
    foregroundStep s = (s.setRes s.xcvr.inputByte).setXcvr { s.xcvr with byteReceived := false, fg := .idle } := by
  simp only [foregroundStep, Xcvr.foregroundEnabled, foregroundAct, hfg, h, if_true]

end

/-- Settles O41: the word decodes by its row, and TX_BYTE's effect is had. -/
theorem txByteStartsTheFrame : Obligations.TxByteStartsTheFrame := fun _ _ hw =>
  ⟨decode_eq_ok_of_row (row := ⟨"TX_BYTE", 0x60, true, false⟩) (by decide) hw rfl, exec_of_done rfl⟩

/-- Settles O42: the frame bit by bit, and the foreground's step in each case of its two transmit phases. -/
theorem transmitStepsFollowTheFrame : Obligations.TransmitStepsFollowTheFrame := by
  refine ⟨fun b => ⟨rfl, fun k hk => frameBit_succ b hk, rfl, rfl⟩, fun s => ⟨?_, ?_, ?_, ?_, ?_, ?_⟩⟩
  · intro hfg hsent hidx
    rw [move, foregroundStep_txBit hfg hsent, txBitStep_next _ hidx]
    rfl
  · intro hfg hsent hidx
    rw [move, foregroundStep_txBit hfg hsent, txBitStep_stop _ hidx]
    rfl
  · intro hfg hsent
    rw [move, foregroundStep_disabled (by simp only [Xcvr.foregroundEnabled, hfg, hsent])]
  · intro hfg hcheck hack
    rw [move, foregroundStep_txCheck hfg hcheck, txCheckStep_ack _ hack]
    rfl
  · intro hfg hcheck hnack
    rw [move, foregroundStep_txCheck hfg hcheck, txCheckStep_nack _ hnack]
    rfl
  · intro hfg hcheck
    rw [move, foregroundStep_disabled (by simp only [Xcvr.foregroundEnabled, hfg, hcheck, Bool.not_true])]

/-- Settles O43: RX_BYTE's effect is had, and in RX_WAIT the foreground's step waits for byteReceived. -/
theorem rxByteArmsAndCompletes : Obligations.RxByteArmsAndCompletes := by
  intro w s
  refine ⟨fun hw => decode_eq_ok_of_row (row := ⟨"RX_BYTE", 0x61, false, false⟩) (by decide) hw rfl,
    exec_of_done rfl, fun hfg hreceived => ?_, fun hfg hreceived => ?_⟩
  · rw [move, foregroundStep_rxWait hfg hreceived]
    rfl
  · rw [move, foregroundStep_disabled (by simp only [Xcvr.foregroundEnabled, hfg, hreceived])]

/-! ### The pin-change detector -/

section

variable {x : Xcvr} (p : Params)

theorem edgeSeen_eq_false_iff : x.edgeSeen = false ↔ x.line = x.linePrev := bne_eq_false_iff_eq

theorem edgeSeen_eq_true_iff : x.edgeSeen = true ↔ x.line ≠ x.linePrev := bne_iff_ne

/-- A falling edge while receiving starts the frame (R306). -/
theorem pinChangeHandler_falling (hline : x.line = false) (hdir : x.dir = .input) :
    pinChangeHandler p x =
      { x with
        pcie := false, tcnt := 0, ocr := rxFirstMatch p, trun := true, inputBitCounter := 0, inputByte := 0x00,
        parityError := false } := if_pos ⟨hline, hdir⟩

theorem pinChangeHandler_ignores (h : x.line = true ∨ x.dir = .output) : pinChangeHandler p x = x := by
  refine if_neg fun ⟨hline, hdir⟩ => ?_
  rcases h with h | h
  · rw [hline] at h; cases h
  · rw [hdir] at h; cases h

theorem pinChangeAct_of_pcie (h : x.pcie = true) :
    pinChangeAct p x = pinChangeHandler p { x with linePrev := x.line } := if_pos h

/-- With PCIE = 0 the edge is forgotten, or latched under PCINT_LATCH (R307). -/
theorem pinChangeAct_of_not_pcie (h : x.pcie = false) :
    pinChangeAct p x = { x with linePrev := x.line, pcPend := x.pcPend || p.pcintLatch } := by
  cases hlatch : p.pcintLatch <;> simp [pinChangeAct, h, hlatch]

end

section

variable {s : State}

theorem pinChangeStep_enabled (h : s.xcvr.edgeSeen = true) :
    pinChangeStep s = s.setXcvr (pinChangeAct s.params s.xcvr) := if_pos h

theorem pinChangeStep_disabled (h : s.xcvr.edgeSeen = false) : pinChangeStep s = s := by
  rw [pinChangeStep, h, if_neg Bool.false_ne_true]

theorem pendingEdgeStep_enabled (hlatch : s.params.pcintLatch = true) (hpcie : s.xcvr.pcie = true)
    (hpend : s.xcvr.pcPend = true) :
    pendingEdgeStep s = s.setXcvr (pinChangeHandler s.params { s.xcvr with pcPend := false }) := by
  rw [pendingEdgeStep, edgePending, hlatch, hpcie, hpend, if_pos (by decide)]

theorem pendingEdgeStep_disabled
    (h : s.params.pcintLatch = false ∨ s.xcvr.pcie = false ∨ s.xcvr.pcPend = false) : pendingEdgeStep s = s := by
  rcases h with h | h | h <;> simp [pendingEdgeStep, edgePending, h]

end

/-- Settles O44: the detector's step and PINPEND's, enabled and not, and the handler on a falling edge and others. -/
theorem pinChangeDetectorActs : Obligations.PinChangeDetectorActs := by
  intro s
  refine ⟨?_, ?_, ?_, ?_, ?_, ?_, ?_⟩
  · intro hsame
    rw [move, pinChangeStep_disabled (edgeSeen_eq_false_iff.2 hsame)]
  · intro hedge hpcie hline hdir
    rw [move, pinChangeStep_enabled (edgeSeen_eq_true_iff.2 hedge), pinChangeAct_of_pcie _ hpcie,
      pinChangeHandler_falling (x := { s.xcvr with linePrev := s.xcvr.line }) _ hline hdir, hline]
    rfl
  · intro hedge hpcie hother
    rw [move, pinChangeStep_enabled (edgeSeen_eq_true_iff.2 hedge), pinChangeAct_of_pcie _ hpcie,
      pinChangeHandler_ignores (x := { s.xcvr with linePrev := s.xcvr.line }) _ hother]
    rfl
  · intro hedge hpcie
    rw [move, pinChangeStep_enabled (edgeSeen_eq_true_iff.2 hedge), pinChangeAct_of_not_pcie _ hpcie]
    rfl
  · intro hlatch hpcie hpend hline hdir
    rw [move, pendingEdgeStep_enabled hlatch hpcie hpend,
      pinChangeHandler_falling (x := { s.xcvr with pcPend := false }) _ hline hdir]
    rfl
  · intro hlatch hpcie hpend hother
    rw [move, pendingEdgeStep_enabled hlatch hpcie hpend,
      pinChangeHandler_ignores (x := { s.xcvr with pcPend := false }) _ hother]
    rfl
  · intro hdisabled
    rw [move, pendingEdgeStep_disabled hdisabled]

/-! ### The timer's handler -/

section

variable {s : State}

theorem sample_of_glitchFree (h : s.params.glitchFree = true) : s.sample = s.xcvr.line := if_pos h

theorem afterSample_of_glitchFree (h : s.params.glitchFree = true) : s.afterSample = s := if_pos h

theorem sample_of_not_glitchFree (h : s.params.glitchFree = false) : s.sample = s.env.nextSample := by
  rw [State.sample, h, if_neg Bool.false_ne_true]

theorem afterSample_of_not_glitchFree (h : s.params.glitchFree = false) :
    s.afterSample = s.setEnv s.env.afterSample := by
  rw [State.afterSample, h, if_neg Bool.false_ne_true]

/-- First the guard interval's sample (R310, R311). -/
theorem timerHandler_of_checkErrors (hcheck : s.xcvr.checkErrors = true) : timerHandler s = errorSample s :=
  if_pos hcheck

/-- Then the release of a NACK (R310, R312). -/
theorem timerHandler_of_nackDriven (hcheck : s.xcvr.checkErrors = false) (hnack : s.xcvr.nackDriven = true) :
    timerHandler s = s.setXcvr (nackRelease s.xcvr) := by
  simp only [timerHandler, hcheck, hnack, Bool.false_eq_true, if_false, if_true]

/-- Then the drive of a NACK (R310, R313). -/
theorem timerHandler_of_parityError (hcheck : s.xcvr.checkErrors = false) (hnack : s.xcvr.nackDriven = false)
    (hdir : s.xcvr.dir = .output) (hparity : s.xcvr.parityError = true) :
    timerHandler s = s.setXcvr (nackDrive s.xcvr) := by
  simp only [timerHandler, hcheck, hnack, hdir, hparity, Bool.false_eq_true, if_false, and_self, if_true]

/-- Then the next bit sent (R310, R314). -/
theorem timerHandler_of_output (hcheck : s.xcvr.checkErrors = false) (hnack : s.xcvr.nackDriven = false)
    (hdir : s.xcvr.dir = .output) (hparity : s.xcvr.parityError = false) :
    timerHandler s = s.setXcvr (txLatch s.xcvr) := by
  simp only [timerHandler, hcheck, hnack, hdir, hparity, Bool.false_eq_true, and_false, if_false, if_true]

/-- Else a bit received (R310, R315). -/
theorem timerHandler_of_input (hcheck : s.xcvr.checkErrors = false) (hnack : s.xcvr.nackDriven = false)
    (hdir : s.xcvr.dir = .input) : timerHandler s = rxSample s := by
  simp only [timerHandler, hcheck, hnack, hdir, Bool.false_eq_true, reduceCtorEq, false_and, if_false]

theorem errorSample_of_glitchFree (h : s.params.glitchFree = true) :
    errorSample s = s.setXcvr { s.xcvr with errorBit := s.xcvr.line, checkErrors := false } := by
  rw [errorSample, afterSample_of_glitchFree h, sample_of_glitchFree h]

theorem errorSample_of_not_glitchFree (h : s.params.glitchFree = false) :
    errorSample s =
      (s.setEnv s.env.afterSample).setXcvr { s.xcvr with errorBit := s.env.nextSample, checkErrors := false } := by
  rw [errorSample, afterSample_of_not_glitchFree h, sample_of_not_glitchFree h]

end

/-- Settles O46: the handler's branches in their order, the first with its two kinds of sample. -/
theorem timerHandlerDispatches : Obligations.TimerHandlerDispatches := fun _ =>
  ⟨fun hcheck hglitch => (timerHandler_of_checkErrors hcheck).trans (errorSample_of_glitchFree hglitch),
    fun hcheck hglitch => (timerHandler_of_checkErrors hcheck).trans (errorSample_of_not_glitchFree hglitch),
    timerHandler_of_nackDriven, timerHandler_of_parityError, timerHandler_of_output, timerHandler_of_input⟩

/-! ### One received bit -/

/-- RxSample is one received bit, the majority of three samples; the samples move the environment only (R305, R315). -/
theorem rxSample_eq_rxBit {s u : State} {v : Bool}
    (h : s.params.glitchFree = true ∧ v = s.xcvr.line ∧ u = s ∨
      s.params.glitchFree = false ∧
        v = maj3 s.env.nextSample s.env.afterSample.nextSample s.env.afterSample.afterSample.nextSample ∧
        u = { s with env := s.env.afterSample.afterSample.afterSample }) :
    rxSample s = u.setXcvr (rxBit v (rxRetime s.params s.xcvr)) := by
  obtain ⟨hglitch, rfl, rfl⟩ | ⟨hglitch, rfl, rfl⟩ := h
  · rw [rxSample]
    simp only [afterSample_of_glitchFree hglitch, sample_of_glitchFree hglitch, maj3_same]
  · have hafter (e : Env) : (s.setEnv e).afterSample = s.setEnv e.afterSample :=
      afterSample_of_not_glitchFree (s := s.setEnv e) hglitch
    have hsample (e : Env) : (s.setEnv e).sample = e.nextSample := sample_of_not_glitchFree (s := s.setEnv e) hglitch
    rw [rxSample]
    simp only [afterSample_of_not_glitchFree hglitch, sample_of_not_glitchFree hglitch, hafter, hsample]
    rfl

/-- The first data bit sets OCR to ETU_TICKS (R315). -/
theorem rxRetime_first {x : Xcvr} (p : Params) (h : x.inputBitCounter = 0) :
    rxRetime p x = { x with ocr := etuMatch p } := if_pos h

theorem rxRetime_later {x : Xcvr} (p : Params) (h : x.inputBitCounter ≠ 0) : rxRetime p x = x := if_neg h

/-- Past the parity bit nothing is received (R315). -/
theorem rxBit_past {x : Xcvr} (h : x.inputBitCounter = 9) (v : Bool) : rxBit v x = x := by
  rw [rxBit, if_neg (by omega), if_neg (by omega)]

theorem zext8_shiftLeft (v : Bool) (n : Nat) : zext8 v <<< n = if v then (1 : Byte) <<< n else 0 := by
  cases v
  · exact BitVec.zero_shiftLeft n
  · rfl

/-- Settles O47: one received bit at each position, with the first data bit's retiming. -/
theorem rxSampleTakesOneBit : Obligations.RxSampleTakesOneBit := by
  intro s u v h
  have hxcvr : u.xcvr = s.xcvr := by obtain ⟨-, -, rfl⟩ | ⟨-, -, rfl⟩ := h <;> rfl
  rw [rxSample_eq_rxBit h]
  refine ⟨fun hpos => ?_, fun hfrom hto => ?_, fun hpos hright => ?_, fun hpos hwrong => ?_, fun hpos => ?_⟩
  · have hdata : ({ s.xcvr with ocr := etuMatch s.params } : Xcvr).inputBitCounter ≤ 7 := hpos.trans_le (by decide)
    rw [rxRetime_first _ hpos, rxBit_dataBit hdata, zext8_shiftLeft]
    simp only [hpos]
    rfl
  · rw [rxRetime_later _ (by omega), rxBit_dataBit hto, zext8_shiftLeft]
    rfl
  · rw [rxRetime_later _ (by omega), rxBit_parityBit hpos, parityCheck_right hright]
    rfl
  · rw [rxRetime_later _ (by omega), rxBit_parityBit hpos, parityCheck_wrong hwrong]
    rfl
  · rw [rxRetime_later _ (by omega), rxBit_past hpos, ← hxcvr]
    rfl

end Sys2Proof.Machine
end

section
/-! SUPPORT. O45: the timer's ticks up to its match (R308, R309). -/

namespace Sys2Proof.Machine

section

variable {s : State}

theorem timerStep_stopped (h : s.xcvr.trun = false) : timerStep s = s := by
  rw [timerStep, h, if_neg Bool.false_ne_true]

theorem timerStep_running (h : s.xcvr.trun = true) : timerStep s = timerAct s := if_pos h

/-- The state with TCNT `k` ticks on. -/
def State.ticked (s : State) (k : Nat) : State :=
  s.setXcvr { s.xcvr with tcnt := s.xcvr.tcnt + BitVec.ofNat 16 k }

/-- How many ticks from a value of TCNT before the one that matches (R308, R309). -/
def Xcvr.ticksBeforeMatch (x : Xcvr) : Nat := (x.ocr - x.tcnt - 1).toNat

theorem tick_ne_match {t c : Word16} {k : Nat} (h : k < (c - t - 1).toNat) : t + BitVec.ofNat 16 k + 1 ≠ c := by
  bv_omega

theorem tick_eq_match (t c : Word16) : t + BitVec.ofNat 16 (c - t - 1).toNat + 1 = c := by
  rw [BitVec.ofNat_toNat, BitVec.setWidth_eq]
  bv_omega

/-- Before its match the timer only counts (R308). -/
theorem timerStep_iterate (hrun : s.xcvr.trun = true) {k : Nat} (hk : k ≤ s.xcvr.ticksBeforeMatch) :
    timerStep^[k] s = s.ticked k := by
  induction k with
  | zero => rw [Function.iterate_zero_apply, State.ticked, BitVec.add_zero]; rfl
  | succ k ih =>
    have hne : (s.ticked k).xcvr.tcnt + 1 ≠ (s.ticked k).xcvr.ocr := tick_ne_match hk
    rw [Function.iterate_succ_apply', ih (by omega), timerStep_running (s := s.ticked k) hrun, timerAct_counts hne,
      State.ticked, State.ticked, BitVec.ofNat_add, ← BitVec.add_assoc]
    rfl

/-- The tick after those clears the counter and runs the handler (R308). -/
theorem timerStep_iterate_match (hrun : s.xcvr.trun = true) :
    timerStep^[s.xcvr.ticksBeforeMatch + 1] s = timerHandler (s.setXcvr { s.xcvr with tcnt := 0 }) := by
  have heq : (s.ticked s.xcvr.ticksBeforeMatch).xcvr.tcnt + 1 = (s.ticked s.xcvr.ticksBeforeMatch).xcvr.ocr :=
    tick_eq_match _ _
  rw [Function.iterate_succ_apply', timerStep_iterate hrun (Nat.le_refl _), timerStep_running (s := s.ticked _) hrun,
    timerAct_matches heq]
  rfl

end

/-- After a clear the match is OCR ticks away, for OCR at least 1 (R309). -/
theorem ticks_of_clear {t c : Word16} (ht : t = 0) (hc : 1 ≤ c.toNat) : (c - t - 1).toNat + 1 = c.toNat := by
  subst ht
  bv_omega

/-- Where OCR is at most TCNT, the counter first wraps around (R309). -/
theorem ticks_of_wrap {t c : Word16} (h : c.toNat ≤ t.toNat) : (c - t - 1).toNat + 1 = 65536 - t.toNat + c.toNat := by
  bv_omega

/-- Settles O45: the ticks before the match, the match, and how many they are. -/
theorem timerMatchesAtOcr : Obligations.TimerMatchesAtOcr := by
  rintro s d rfl
  refine ⟨timerStep_stopped, fun hrun => ⟨fun k hk => timerStep_iterate hrun hk, timerStep_iterate_match hrun⟩,
    ticks_of_clear, fun ht hc => ?_, ticks_of_wrap⟩
  rw [ht, hc]
  rfl

end Sys2Proof.Machine
end

section
/-! SUPPORT. O49: a transmission under PROMPT, phase by phase: each bit of the frame waits for its match and is followed
by the next, and the guard interval's sample is the ACK (R301, R308, R311, R314, R430; log entries 10, 11 and 12). -/

namespace Sys2Proof.Machine

/-! ### Runs -/

theorem run_succ {s t : State} (h : step s = .next t) (n : Nat) : core.run (n + 1) s = core.run n t := by
  have hcore : core.step s = .next t := h
  simp only [Host.Core.run, hcore]

/-- A run that answers goes on from the state it answers. -/
theorem run_add {s t : State} {m : Nat} (h : core.run m s = .next t) (n : Nat) : core.run (m + n) s = core.run n t := by
  induction m generalizing s with
  | zero =>
    cases h
    rw [Nat.zero_add]
  | succ m ih =>
    rw [Nat.succ_add]
    cases hstep : core.step s with
    | next u =>
      rw [run_succ hstep] at h ⊢
      exact ih h
    | fault f => simp [Host.Core.run, hstep] at h
    | refused r => simp [Host.Core.run, hstep] at h

/-! ### Waiting for the match -/

/-- PROMPT chooses the steps, and the terminal makes no write (R430; log entries 11 and 12). -/
structure State.Undisturbed (s : State) : Prop where
  promptTurn : s.PromptTurn
  noWrites : s.env.termScript = []

/-- The timer runs and no other agent has a step, but the host perhaps, which waits for FG = IDLE (R110). -/
structure Xcvr.Waits (x : Xcvr) : Prop where
  trun : x.trun = true
  pcie : x.pcie = false
  busy : x.fg ≠ .idle
  foreground : x.foregroundEnabled = false
  edge : x.edgeSeen = false

section

variable {s : State} (hs : s.Undisturbed)

include hs

theorem State.Undisturbed.setXcvr (x : Xcvr) : (s.setXcvr x).Undisturbed := ⟨hs.promptTurn, hs.noWrites⟩

theorem State.Undisturbed.dueWrite : s.env.dueWrite = none := by rw [Env.dueWrite, hs.noWrites]

/-- With no write to come a clock unit is the timer's tick (log entry 12). -/
theorem State.Undisturbed.clockUnit_eq : clockUnit s = timerStep s := by
  have henv : s.env.clockUnit = s.env := by rw [Env.clockUnit, hs.noWrites]
  rw [clockUnit, henv]
  rfl

/-- An enabled foreground moves before the other agents (R430; log entry 11). -/
theorem step_of_foreground (h : s.xcvr.foregroundEnabled = true) : step s = .next (foregroundStep s) := by
  simp only [step_of_promptTurn hs.promptTurn, promptStep, hs.dueWrite, h, if_true]

/-- Then the detector moves. -/
theorem step_of_edge (hfg : s.xcvr.foregroundEnabled = false) (h : s.xcvr.edgeSeen = true) :
    step s = .next (pinChangeStep s) := by
  simp only [step_of_promptTurn hs.promptTurn, promptStep, hs.dueWrite, hfg, h, Bool.false_eq_true, if_false, if_true]

/-- While all wait the timer ticks. -/
theorem step_of_waits (h : s.xcvr.Waits) : step s = .next (timerStep s) := by
  have hpend : edgePending s.params s.xcvr = false := by simp [edgePending, h.pcie]
  have hhost : s.hostEnabled = false := by simp [State.hostEnabled, h.busy]
  simp only [step_of_promptTurn hs.promptTurn, promptStep, hs.dueWrite, h.foreground, h.edge, hpend, hhost,
    Bool.false_eq_true, if_false, hs.clockUnit_eq]

/-- The timer ticks alone up to its match and with it. -/
theorem run_of_waits (h : s.xcvr.Waits) {k : Nat} (hk : k ≤ s.xcvr.ticksBeforeMatch + 1) :
    core.run k s = .next (timerStep^[k] s) := by
  induction k with
  | zero => rfl
  | succ k ih =>
    have hticked : timerStep^[k] s = s.ticked k := timerStep_iterate h.trun (by omega)
    have hwaits : (s.ticked k).xcvr.Waits := ⟨h.trun, h.pcie, h.busy, h.foreground, h.edge⟩
    have hstep : step (s.ticked k) = .next (timerStep (s.ticked k)) :=
      step_of_waits (hs.setXcvr _) hwaits
    rw [run_add (ih (by omega)) 1, Function.iterate_succ_apply', hticked, run_succ hstep]
    rfl

/-- From a clear of TCNT the handler runs after OCR steps (R308, R309). -/
theorem run_to_match (h : s.xcvr.Waits) (hclear : s.xcvr.tcnt = 0) (hocr : 1 ≤ s.xcvr.ocr.toNat) :
    core.run s.xcvr.ocr.toNat s = .next (timerHandler s) := by
  have hticks : s.xcvr.ticksBeforeMatch + 1 = s.xcvr.ocr.toNat := ticks_of_clear hclear hocr
  have hcleared : s.setXcvr { s.xcvr with tcnt := 0 } = s := by rw [← hclear]; rfl
  rw [← hticks, run_of_waits hs h (Nat.le_refl _), timerStep_iterate_match h.trun, hcleared]

end

/-! ### Phases of a transmission -/

/-- While b is transmitted, at a clear of TCNT, the terminal leaving the line released. -/
structure Xcvr.Transmits (b : Byte) (x : Xcvr) : Prop where
  txb : x.txb = b
  trun : x.trun = true
  tcnt : x.tcnt = 0
  pcie : x.pcie = false
  nackDriven : x.nackDriven = false
  parityError : x.parityError = false
  term : x.term = true

/-- Bit i of the frame of b waits for its match (R301, R314). -/
structure Xcvr.Sending (b : Byte) (i : Nat) (x : Xcvr) : Prop extends x.Transmits b where
  fg : x.fg = .txBit
  txIdx : x.txIdx = i
  outputBit : x.outputBit = frameBit b i
  bitSent : x.bitSent = false
  checkErrors : x.checkErrors = false
  dir : x.dir = .output
  ocr : x.ocr = 372

/-- The frame of b is sent, and the guard interval's sample waits for its match (R301, R311). -/
structure Xcvr.Guarding (b : Byte) (x : Xcvr) : Prop extends x.Transmits b where
  fg : x.fg = .txCheck
  txIdx : x.txIdx = 10
  lineDrv : x.lineDrv = true
  checkErrors : x.checkErrors = true
  dir : x.dir = .input
  ocr : x.ocr = 322

/-- TX_BYTE of b has completed with an ACK (R301). -/
structure Xcvr.Acknowledged (b : Byte) (x : Xcvr) : Prop where
  fg : x.fg = .idle
  errorBit : x.errorBit = true
  trun : x.trun = false
  pcie : x.pcie = false
  dir : x.dir = .input
  lineDrv : x.lineDrv = true
  txIdx : x.txIdx = 10
  txb : x.txb = b

/-- The detector's part of the transceiver replaced. -/
def Xcvr.setEdge (x : Xcvr) (prev pend : Bool) : Xcvr := { x with linePrev := prev, pcPend := pend }

section

variable {b : Byte} {i : Nat} {x : Xcvr}

theorem Xcvr.Transmits.setEdge (h : x.Transmits b) (prev pend : Bool) : (x.setEdge prev pend).Transmits b := { h with }

theorem Xcvr.Sending.setEdge (h : x.Sending b i) (prev pend : Bool) : (x.setEdge prev pend).Sending b i :=
  { h, h.toTransmits.setEdge prev pend with }

theorem Xcvr.Guarding.setEdge (h : x.Guarding b) (prev pend : Bool) : (x.setEdge prev pend).Guarding b :=
  { h, h.toTransmits.setEdge prev pend with }

theorem Xcvr.Sending.foregroundEnabled (h : x.Sending b i) : x.foregroundEnabled = false := by
  simp only [Xcvr.foregroundEnabled, h.fg, h.bitSent]

theorem Xcvr.Guarding.foregroundEnabled (h : x.Guarding b) : x.foregroundEnabled = false := by
  simp only [Xcvr.foregroundEnabled, h.fg, h.checkErrors, Bool.not_true]

/-- In a phase other than IDLE whose foreground waits, only the timer has a step. -/
theorem Xcvr.Transmits.waits (h : x.Transmits b) {phase : Phase} (hfg : x.fg = phase) (hbusy : phase ≠ .idle)
    (hforeground : x.foregroundEnabled = false) (hedge : x.edgeSeen = false) : x.Waits :=
  ⟨h.trun, h.pcie, hfg ▸ hbusy, hforeground, hedge⟩

/-- TX_BYTE's issue sets up the start bit (R300). -/
theorem txStart_sending {p : Params} (hetu : p.etuTicks = 372) (hterm : x.term = true) (hfg : x.fg = .idle)
    (hprompt : x.Prompt) : (txStart p { x with txb := b }).Sending b 0 := by
  simp only [Xcvr.Prompt, hfg] at hprompt
  obtain ⟨-, -, hcheck, hnack, hparity⟩ := hprompt
  have hocr : etuMatch p = 372 := by rw [etuMatch, hetu]; rfl
  exact { txb := rfl, trun := rfl, tcnt := rfl, pcie := rfl, nackDriven := hnack, parityError := hparity, term := hterm,
          fg := rfl, txIdx := rfl, outputBit := rfl, bitSent := rfl, checkErrors := hcheck, dir := rfl, ocr := hocr }

/-- A bit before the stop bit is followed by the next (R301). -/
theorem Xcvr.Sending.next (h : x.Sending b i) (hi : i < 10) (p : Params) :
    (txBitStep p (txLatch x)).Sending b (i + 1) := by
  obtain rfl := h.txIdx
  obtain rfl := h.txb
  rw [txBitStep_next (x := txLatch x) p hi]
  exact { h with txb := rfl, txIdx := rfl, outputBit := rfl, bitSent := rfl }

/-- The stop bit, which leaves the line high, is followed by the guard interval (R301). -/
theorem Xcvr.Sending.guard (h : x.Sending b 10) {p : Params} (hetu : p.etuTicks = 372) (hfudge : p.fudge = 50) :
    (txBitStep p (txLatch x)).Guarding b := by
  have hocr : errMatch p = 322 := by rw [errMatch, hetu, hfudge]; rfl
  rw [txBitStep_stop (x := txLatch x) p h.txIdx]
  exact { h with fg := rfl, lineDrv := h.outputBit, checkErrors := rfl, dir := rfl, ocr := hocr }

/-- While the card receives and the terminal has released the line, it is high (R46, R304). -/
theorem line_of_released (hdir : x.dir = .input) (hterm : x.term = true) : x.line = true := by
  simp [Xcvr.line, hdir, hterm]

/-- The sample of the released line is the ACK that completes TX_BYTE (R301, R311). -/
theorem Xcvr.Guarding.acknowledge (h : x.Guarding b) (p : Params) :
    (txCheckStep p { x with errorBit := x.line, checkErrors := false }).Acknowledged b := by
  have hack : x.line = true := line_of_released h.dir h.term
  rw [txCheckStep_ack (x := { x with errorBit := x.line, checkErrors := false }) p hack]
  exact { h with fg := rfl, errorBit := hack, trun := rfl }

end

/-! ### From phase to phase -/

/-- From every transceiver with `P`, at most `N` steps, which change the transceiver only, lead to one with `Q`. -/
def State.Leads (s : State) (N : Nat) (P Q : Xcvr → Prop) : Prop :=
  ∀ x, P x → ∃ n ≤ N, ∃ y, core.run n (s.setXcvr x) = .next (s.setXcvr y) ∧ Q y

/-- The premises on the environment and the parameters (R8, R305, R430). -/
structure State.DefaultTiming (s : State) : Prop extends s.Undisturbed where
  glitchFree : s.params.glitchFree = true
  etuTicks : s.params.etuTicks = 372
  fudge : s.params.fudge = 50

section

variable {s : State} {N M : Nat} {P Q R : Xcvr → Prop}

theorem State.Leads.refl (s : State) (P : Xcvr → Prop) : s.Leads 0 P P := fun x hx => ⟨0, Nat.le_refl 0, x, rfl, hx⟩

theorem State.Leads.trans (h : s.Leads N P Q) (k : s.Leads M Q R) : s.Leads (N + M) P R := by
  intro x hx
  obtain ⟨n, hn, y, hrun, hy⟩ := h x hx
  obtain ⟨m, hm, z, hrun', hz⟩ := k y hy
  exact ⟨n + m, Nat.add_le_add hn hm, z, (run_add hrun m).trans hrun', hz⟩

/-- While the foreground waits and PCIE is 0, the detector sees an edge at most once, and then none is left (R306). -/
theorem leads_to_no_edge (hs : s.Undisturbed) (hwait : ∀ x, P x → x.foregroundEnabled = false ∧ x.pcie = false)
    (hset : ∀ x prev pend, P x → P (x.setEdge prev pend)) : s.Leads 1 P fun x => P x ∧ x.edgeSeen = false := by
  intro x hx
  obtain ⟨hfg, hpcie⟩ := hwait x hx
  cases hedge : x.edgeSeen with
  | false => exact ⟨0, Nat.zero_le 1, x, rfl, hx, hedge⟩
  | true =>
    have hstep : step (s.setXcvr x) = .next (pinChangeStep (s.setXcvr x)) :=
      step_of_edge (hs.setXcvr x) hfg hedge
    rw [pinChangeStep_enabled (s := s.setXcvr x) hedge, State.setXcvr_xcvr, pinChangeAct_of_not_pcie _ hpcie] at hstep
    exact ⟨1, Nat.le_refl 1, _, run_succ hstep 0, hset x _ _ hx, bne_self_eq_false (a := x.line)⟩

end

section

variable {s : State} {b : Byte} (hs : s.DefaultTiming)

include hs

/-- A bit's match latches it, and the foreground goes on in the next step (R301, R314). -/
theorem run_sending {i : Nat} {x : Xcvr} (h : x.Sending b i) (hedge : x.edgeSeen = false) :
    core.run 373 (s.setXcvr x) = .next (s.setXcvr (txBitStep s.params (txLatch x))) := by
  have hmatch := run_to_match (hs.toUndisturbed.setXcvr x) (h.waits h.fg nofun h.foregroundEnabled hedge) h.tcnt
    (by rw [State.setXcvr_xcvr, h.ocr]; decide)
  rw [timerHandler_of_output (s := s.setXcvr x) h.checkErrors h.nackDriven h.dir h.parityError, State.setXcvr_xcvr,
    h.ocr] at hmatch
  have hnext := step_of_foreground (hs.toUndisturbed.setXcvr (txLatch x))
    (by simp only [State.setXcvr_xcvr, Xcvr.foregroundEnabled, txLatch, h.fg])
  rw [foregroundStep_txBit (s := s.setXcvr (txLatch x)) h.fg rfl] at hnext
  exact (run_add hmatch 1).trans (run_succ hnext 0)

/-- The guard interval's match samples the line, and the foreground acts on the sample in the next step (R301, R311). -/
theorem run_guarding {x : Xcvr} (h : x.Guarding b) (hedge : x.edgeSeen = false) :
    core.run 323 (s.setXcvr x) =
      .next (s.setXcvr (txCheckStep s.params { x with errorBit := x.line, checkErrors := false })) := by
  have hmatch := run_to_match (hs.toUndisturbed.setXcvr x) (h.waits h.fg nofun h.foregroundEnabled hedge) h.tcnt
    (by rw [State.setXcvr_xcvr, h.ocr]; decide)
  rw [timerHandler_of_checkErrors (s := s.setXcvr x) h.checkErrors,
    errorSample_of_glitchFree (s := s.setXcvr x) hs.glitchFree, State.setXcvr_xcvr, h.ocr] at hmatch
  have hnext := step_of_foreground
    (hs.toUndisturbed.setXcvr { x with errorBit := x.line, checkErrors := false })
    (by simp only [State.setXcvr_xcvr, Xcvr.foregroundEnabled, h.fg, Bool.not_false])
  rw [foregroundStep_txCheck (s := s.setXcvr { x with errorBit := x.line, checkErrors := false }) h.fg rfl] at hnext
  exact (run_add hmatch 1).trans (run_succ hnext 0)

/-- An edge from the bit before is seen while the bit waits (R306). -/
theorem leads_sending_no_edge (i : Nat) :
    s.Leads 1 (·.Sending b i) fun x => x.Sending b i ∧ x.edgeSeen = false :=
  leads_to_no_edge (P := (·.Sending b i)) hs.toUndisturbed (fun _ h => ⟨h.foregroundEnabled, h.pcie⟩)
    fun _ prev pend h => h.setEdge prev pend

/-- An edge from the stop bit is seen while the guard interval's sample waits (R306). -/
theorem leads_guarding_no_edge : s.Leads 1 (·.Guarding b) fun x => x.Guarding b ∧ x.edgeSeen = false :=
  leads_to_no_edge (P := (·.Guarding b)) hs.toUndisturbed (fun _ h => ⟨h.foregroundEnabled, h.pcie⟩)
    fun _ prev pend h => h.setEdge prev pend

theorem leads_sending_next {i : Nat} (hi : i < 10) : s.Leads 374 (·.Sending b i) (·.Sending b (i + 1)) :=
  (leads_sending_no_edge (b := b) hs i).trans fun _ ⟨h, hedge⟩ =>
    ⟨373, Nat.le_refl _, _, run_sending hs h hedge, h.next hi _⟩

theorem leads_sending_guarding : s.Leads 374 (·.Sending b 10) (·.Guarding b) :=
  (leads_sending_no_edge (b := b) hs 10).trans fun _ ⟨h, hedge⟩ =>
    ⟨373, Nat.le_refl _, _, run_sending hs h hedge, h.guard hs.etuTicks hs.fudge⟩

theorem leads_guarding_acknowledged : s.Leads 324 (·.Guarding b) (·.Acknowledged b) :=
  (leads_guarding_no_edge (b := b) hs).trans fun _ ⟨h, hedge⟩ =>
    ⟨323, Nat.le_refl _, _, run_guarding hs h hedge, h.acknowledge _⟩

/-- The bits of the frame, one after another (R301). -/
theorem leads_through_frame {i : Nat} (hi : i ≤ 10) : s.Leads (374 * i) (·.Sending b 0) (·.Sending b i) := by
  induction i with
  | zero => exact State.Leads.refl s _
  | succ i ih => exact (ih (by omega)).trans (leads_sending_next hs hi)

theorem leads_sending_acknowledged : s.Leads 4438 (·.Sending b 0) (·.Acknowledged b) :=
  ((leads_through_frame hs (Nat.le_refl 10)).trans (leads_sending_guarding hs)).trans (leads_guarding_acknowledged hs)

end

/-- Settles O49: eleven bits and the guard interval, each with at most one edge and one step of the foreground. -/
theorem acknowledgedTransmitCompletes : Obligations.AcknowledgedTransmitCompletes := by
  intro s a hturn hglitch hetu hfudge hscript hterm hfg hprompt
  have hs : s.DefaultTiming := ⟨⟨hturn, hscript⟩, hglitch, hetu, hfudge⟩
  obtain ⟨n, hn, y, hrun, hy⟩ := leads_sending_acknowledged hs _ (txStart_sending (b := a) hetu hterm hfg hprompt)
  exact ⟨_, _, n, exec_of_done rfl, hn.trans (by decide), hrun, hy.fg, hy.errorBit, hy.trun, hy.pcie, hy.dir,
    hy.lineDrv, hy.txIdx, hy.txb, rfl, rfl, rfl⟩

end Sys2Proof.Machine
end

section
/-! SUPPORT. O58: the agenda is the environment's own, so no command moves it: an effect moves the oracle's queue and
counter only (R182, R389; log entry 11). -/

namespace Sys2Proof.Machine

/-- The agenda is `a` where the effect is had, and where it raises. -/
def Effect.LeavesAgenda (a : List Agent) : Effect → Prop
  | .done t => t.env.agenda = a
  | .raised _ env => env.agenda = a
  | .stopped _ => True

section

variable {a : List Agent}

@[simp] theorem leavesAgenda_done {t : State} : (Effect.done t).LeavesAgenda a ↔ t.env.agenda = a := Iff.rfl

@[simp] theorem leavesAgenda_raised {e : CmdError} {env : Env} :
    (Effect.raised e env).LeavesAgenda a ↔ env.agenda = a := Iff.rfl

@[simp] theorem leavesAgenda_stopped (f : Fault) : (Effect.stopped f).LeavesAgenda a := trivial

theorem leavesAgenda_andThen {r : Effect} {k : State → Effect} (hr : r.LeavesAgenda a)
    (hk : ∀ u : State, u.env.agenda = a → (k u).LeavesAgenda a) : (r.andThen k).LeavesAgenda a := by
  cases r with
  | done u => exact hk u hr
  | raised e env => exact hr
  | stopped f => exact leavesAgenda_stopped f

theorem leavesAgenda_reading (es : List Element) (s : State) {k : Effect} (hk : k.LeavesAgenda a) :
    (reading es s k).LeavesAgenda a := by
  obtain ⟨-, h⟩ | ⟨e, -, -, h⟩ := reading_cases es s k <;> rw [h]
  · exact hk
  · exact leavesAgenda_stopped _

variable {s : State} (hs : s.env.agenda = a)

include hs

theorem leavesAgenda_operand {n : Nat} (b : Byte) {k : Fin n → Effect} (hk : ∀ i, (k i).LeavesAgenda a) :
    (operand n b s k).LeavesAgenda a := by
  unfold operand
  split
  · exact hk _
  · exact hs

theorem leavesAgenda_seeding {k : State → Effect} (hk : ∀ u : State, u.env.agenda = a → (k u).LeavesAgenda a) :
    (seeding s k).LeavesAgenda a := by
  obtain ⟨n, -, ⟨x, h⟩ | h⟩ := seeding_cases s k <;> rw [h]
  · exact hk _ hs
  · exact hs

theorem dummyOperation_leavesAgenda : (dummyOperation s).LeavesAgenda a := by
  obtain ⟨d, -, n, -, h⟩ | h | h := dummyOperation_cases s <;> rw [h]
  · exact hs
  · exact hs
  · exact leavesAgenda_stopped _

theorem layer_leavesAgenda (linear : Bool) (es : State → List Element) (f : State → StateMatrix) :
    (layer linear es f s).LeavesAgenda a := by
  refine leavesAgenda_andThen ?_ fun u hu => leavesAgenda_reading _ _ hu
  unfold dummyPrefix
  split
  · exact dummyOperation_leavesAgenda hs
  · exact hs

theorem perform_leavesAgenda (op : MicroOp) : (perform op s).LeavesAgenda a := by
  cases op
  case addRoundKey i => rw [perform, addRoundKey_eq_layer]; exact layer_leavesAgenda hs _ _ _
  case invShiftRows => rw [perform, invShiftRows_eq_layer]; exact layer_leavesAgenda hs _ _ _
  case invByteSub => rw [perform, invByteSub_eq_layer]; exact layer_leavesAgenda hs _ _ _
  case invMixCols => rw [perform, invMixCols_eq_layer]; exact layer_leavesAgenda hs _ _ _
  case maskInit => exact leavesAgenda_seeding (k := fun u => .done u.drawnMasks) hs fun _ hu => hu
  case hidingInit =>
    refine leavesAgenda_seeding (k := fun u => .done u.drawnSchedule) hs fun u hu => ?_
    rw [leavesAgenda_done, drawnSchedule_frame]
    exact hu
  case keyExpand | shuffleSboxAccess => exact hs
  case loadState | storeState | maskSubkeys | invMaskState | invRemaskState | invUnmaskState =>
    exact leavesAgenda_reading _ s hs

omit hs in
theorem performAll_leavesAgenda (ops : List MicroOp) (hs : s.env.agenda = a) :
    (performAll ops s).LeavesAgenda a := by
  induction ops generalizing s with
  | nil => exact hs
  | cons op rest ih => exact leavesAgenda_andThen (perform_leavesAgenda hs op) fun _ hu => ih hu

theorem commandEffect_leavesAgenda (i : Instr) : (commandEffect i s).LeavesAgenda a := by
  cases i <;> simp only [commandEffect]
  case keyExpand | loadState | storeState | invShiftRows | invByteSub | invMixCols | maskInit | maskSubkeys
      | invMaskState | invRemaskState | invUnmaskState | hidingInit | shuffleSboxAccess =>
    exact perform_leavesAgenda hs _
  case addRoundKey b => exact leavesAgenda_operand hs b fun i => perform_leavesAgenda hs (.addRoundKey i)
  case decrypt => exact performAll_leavesAgenda _ hs
  case dummyOp => exact dummyOperation_leavesAgenda hs
  case prngSeed => exact leavesAgenda_seeding hs fun _ hu => hu
  case wkey b _ | wdata b _ => exact leavesAgenda_operand hs b fun _ => hs
  case rdata b => exact leavesAgenda_operand hs b fun _ => leavesAgenda_reading _ s hs
  case rotrRow b c =>
    exact leavesAgenda_operand hs b fun _ => leavesAgenda_operand hs c fun _ => leavesAgenda_reading _ s hs
  case rdMsbox => exact leavesAgenda_reading _ s hs
  all_goals exact hs

end

/-- A command keeps the agenda, whether it raises or not. -/
theorem exec_keeps_agenda {i : Instr} {s t : State} (h : exec i s = .next t) : t.env.agenda = s.env.agenda := by
  have heffect : (commandEffect i s).LeavesAgenda s.env.agenda := commandEffect_leavesAgenda rfl i
  rw [exec_eq_settle] at h
  obtain hd | ⟨e, env, hr, rfl⟩ := settle_next_cases h
  · rwa [hd, leavesAgenda_done] at heffect
  · rwa [hr, leavesAgenda_raised] at heffect

end Sys2Proof.Machine
end

section
/-! SUPPORT. O58: the transceiver under PROMPT as a machine of four phases, and the moves from phase to phase (R300 to
R316, R393, R430; log entry 17). -/

namespace Sys2Proof.Machine

/-! ### The phases -/

/-- FG = IDLE: no handler is enabled (R393). -/
structure Xcvr.Resting (x : Xcvr) : Prop where
  fg : x.fg = .idle
  trun : x.trun = false
  pcie : x.pcie = false
  checkErrors : x.checkErrors = false
  nackDriven : x.nackDriven = false
  parityError : x.parityError = false

/-- FG = TX_BIT: a bit of the frame is driven (R301). -/
structure Xcvr.Driving (x : Xcvr) : Prop where
  fg : x.fg = .txBit
  trun : x.trun = true
  pcie : x.pcie = false
  checkErrors : x.checkErrors = false
  nackDriven : x.nackDriven = false
  parityError : x.parityError = false
  dir : x.dir = .output

/-- FG = TX_CHECK: the guard interval (R301, R311). -/
structure Xcvr.Checking (x : Xcvr) : Prop where
  fg : x.fg = .txCheck
  trun : x.trun = true
  pcie : x.pcie = false
  nackDriven : x.nackDriven = false
  parityError : x.parityError = false
  dir : x.dir = .input

/-- FG = RX_WAIT: the detector is armed or the timer runs, and a NACK follows a parity error only (R303, R312, R313). -/
structure Xcvr.Receiving (x : Xcvr) : Prop where
  fg : x.fg = .rxWait
  checkErrors : x.checkErrors = false
  pcie : x.trun = true → x.pcie = false
  dir : x.dir = .output ↔ x.parityError = true
  nackDriven : x.nackDriven = true → x.parityError = true
  trun_of_received : x.byteReceived = true → x.trun = false
  pcie_of_received : x.byteReceived = true → x.pcie = false
  parity_of_received : x.byteReceived = true → x.parityError = false

/-- The invariant is one of the four phases. -/
theorem Xcvr.prompt_iff (x : Xcvr) : x.Prompt ↔ x.Resting ∨ x.Driving ∨ x.Checking ∨ x.Receiving := by
  constructor
  · intro h
    cases hfg : x.fg <;> simp only [Xcvr.Prompt, hfg] at h
    case idle =>
      obtain ⟨htrun, hpcie, hcheck, hnack, hparity⟩ := h
      exact .inl ⟨hfg, htrun, hpcie, hcheck, hnack, hparity⟩
    case txBit =>
      obtain ⟨htrun, hpcie, hcheck, hnack, hparity, hdir⟩ := h
      exact .inr (.inl ⟨hfg, htrun, hpcie, hcheck, hnack, hparity, hdir⟩)
    case txCheck =>
      obtain ⟨htrun, hpcie, hnack, hparity, hdir⟩ := h
      exact .inr (.inr (.inl ⟨hfg, htrun, hpcie, hnack, hparity, hdir⟩))
    case rxWait =>
      obtain ⟨hcheck, hpcie, hdir, hnack, hreceived⟩ := h
      exact .inr (.inr (.inr ⟨hfg, hcheck, hpcie, hdir, hnack, fun hr => (hreceived hr).1,
        fun hr => (hreceived hr).2.1, fun hr => (hreceived hr).2.2⟩))
  · rintro (h | h | h | h) <;> simp only [Xcvr.Prompt, h.fg]
    · exact ⟨h.trun, h.pcie, h.checkErrors, h.nackDriven, h.parityError⟩
    · exact ⟨h.trun, h.pcie, h.checkErrors, h.nackDriven, h.parityError, h.dir⟩
    · exact ⟨h.trun, h.pcie, h.nackDriven, h.parityError, h.dir⟩
    · exact ⟨h.checkErrors, h.pcie, h.dir, h.nackDriven,
        fun hr => ⟨h.trun_of_received hr, h.pcie_of_received hr, h.parity_of_received hr⟩⟩

section

variable {x : Xcvr}

theorem Xcvr.Resting.prompt (h : x.Resting) : x.Prompt := x.prompt_iff.2 (.inl h)

theorem Xcvr.Driving.prompt (h : x.Driving) : x.Prompt := x.prompt_iff.2 (.inr (.inl h))

theorem Xcvr.Checking.prompt (h : x.Checking) : x.Prompt := x.prompt_iff.2 (.inr (.inr (.inl h)))

theorem Xcvr.Receiving.prompt (h : x.Receiving) : x.Prompt := x.prompt_iff.2 (.inr (.inr (.inr h)))

theorem Xcvr.Prompt.resting (h : x.Prompt) (hfg : x.fg = .idle) : x.Resting := by
  obtain h | h | h | h := x.prompt_iff.1 h
  · exact h
  all_goals exact absurd (h.fg.symm.trans hfg) nofun

/-- The detector is armed in RX_WAIT only (R302, R393). -/
theorem Xcvr.Prompt.receiving (h : x.Prompt) (hpcie : x.pcie = true) : x.Receiving := by
  obtain h | h | h | h := x.prompt_iff.1 h
  case inr.inr.inr => exact h
  all_goals exact absurd (h.pcie.symm.trans hpcie) nofun

/-- Only a parity error turns the line around while a byte is received (R316). -/
theorem Xcvr.Receiving.parityError_of_input (h : x.Receiving) (hdir : x.dir = .input) : x.parityError = false :=
  Bool.eq_false_iff.2 fun hparity => absurd (hdir.symm.trans (h.dir.2 hparity)) nofun

theorem Xcvr.Receiving.nackDriven_of_parity (h : x.Receiving) (hparity : x.parityError = false) :
    x.nackDriven = false :=
  Bool.eq_false_iff.2 fun hnack => Bool.eq_false_iff.1 hparity (h.nackDriven hnack)

/-- While the timer runs the byte is not complete (R316). -/
theorem Xcvr.Receiving.byteReceived_of_trun (h : x.Receiving) (htrun : x.trun = true) : x.byteReceived = false :=
  Bool.eq_false_iff.2 fun hreceived => absurd ((h.trun_of_received hreceived).symm.trans htrun) nofun

/-- Nor while the detector is armed (R302). -/
theorem Xcvr.Receiving.byteReceived_of_pcie (h : x.Receiving) (hpcie : x.pcie = true) : x.byteReceived = false :=
  Bool.eq_false_iff.2 fun hreceived => absurd ((h.pcie_of_received hreceived).symm.trans hpcie) nofun

/-! ### The commands and the foreground -/

theorem resting_txStart (h : x.Resting) (p : Params) (b : Byte) : (txStart p { x with txb := b }).Driving :=
  { h with fg := rfl, trun := rfl, pcie := rfl, dir := rfl }

theorem resting_rxStart (h : x.Resting) : (rxStart x).Receiving where
  fg := rfl
  checkErrors := h.checkErrors
  pcie htrun := absurd (h.trun.symm.trans htrun) nofun
  dir := ⟨nofun, nofun⟩
  nackDriven hnack := absurd (h.nackDriven.symm.trans hnack) nofun
  trun_of_received := nofun
  pcie_of_received := nofun
  parity_of_received := nofun

theorem driving_txBitStep (h : x.Driving) (p : Params) : (txBitStep p x).Prompt := by
  unfold txBitStep
  split
  · exact Xcvr.Driving.prompt { h with }
  · exact Xcvr.Checking.prompt { h with fg := rfl, dir := rfl }

/-- An ACK ends the transmission, a NACK starts the frame again (R301, R386). -/
theorem checking_txCheckStep (h : x.Checking) (hcheck : x.checkErrors = false) (p : Params) :
    (txCheckStep p x).Prompt := by
  cases hack : x.errorBit with
  | true =>
    rw [txCheckStep_ack p hack]
    exact Xcvr.Resting.prompt { h with fg := rfl, trun := rfl, checkErrors := hcheck }
  | false =>
    rw [txCheckStep_nack p hack]
    exact Xcvr.Driving.prompt { h with fg := rfl, trun := rfl, pcie := rfl, checkErrors := hcheck, dir := rfl }

/-- A received byte leaves nothing enabled: its parity was right, so no NACK is driven (R303, R316). -/
theorem receiving_completes (h : x.Receiving) (hreceived : x.byteReceived = true) :
    ({ x with byteReceived := false, fg := .idle } : Xcvr).Resting where
  fg := rfl
  trun := h.trun_of_received hreceived
  pcie := h.pcie_of_received hreceived
  checkErrors := h.checkErrors
  nackDriven := h.nackDriven_of_parity (h.parity_of_received hreceived)
  parityError := h.parity_of_received hreceived

/-! ### The detector -/

/-- The armed detector starts the frame, or ignores the edge (R306). -/
theorem receiving_pinChangeHandler (h : x.Receiving) (hpcie : x.pcie = true) (p : Params) :
    (pinChangeHandler p x).Receiving := by
  have hreceived : x.byteReceived = false := h.byteReceived_of_pcie hpcie
  unfold pinChangeHandler
  split
  next hfalling =>
    have hnack : x.nackDriven = false := h.nackDriven_of_parity (h.parityError_of_input hfalling.2)
    constructor <;> simp [h.fg, h.checkErrors, hfalling.2, hnack, hreceived]
  next => exact h

theorem prompt_pinChangeAct (h : x.Prompt) (p : Params) : (pinChangeAct p x).Prompt := by
  cases hpcie : x.pcie with
  | true =>
    have hseen : ({ x with linePrev := x.line } : Xcvr).Receiving := { h.receiving hpcie with }
    rw [pinChangeAct_of_pcie p hpcie]
    exact (receiving_pinChangeHandler hseen hpcie p).prompt
  | false =>
    rw [pinChangeAct_of_not_pcie p hpcie]
    exact h

/-! ### The timer's handler -/

theorem receiving_nackRelease (h : x.Receiving) (htrun : x.trun = true) : (nackRelease x).Receiving := by
  have hreceived : x.byteReceived = false := h.byteReceived_of_trun htrun
  constructor <;> simp [nackRelease, h.fg, h.checkErrors, hreceived]

theorem receiving_nackDrive (h : x.Receiving) (hparity : x.parityError = true) : (nackDrive x).Receiving :=
  { h with nackDriven := fun _ => hparity }

theorem receiving_rxRetime (h : x.Receiving) (p : Params) : (rxRetime p x).Receiving := by
  unfold rxRetime
  split
  · exact { h with }
  · exact h

@[simp] theorem rxRetime_trun (p : Params) (x : Xcvr) : (rxRetime p x).trun = x.trun := by
  unfold rxRetime; split <;> rfl

@[simp] theorem rxRetime_dir (p : Params) (x : Xcvr) : (rxRetime p x).dir = x.dir := by
  unfold rxRetime; split <;> rfl

/-- The right parity completes the byte and stops the timer; the wrong one turns the line around for the NACK (R316). -/
theorem receiving_parityCheck (h : x.Receiving) (htrun : x.trun = true) (hdir : x.dir = .input) (v : Bool) :
    (parityCheck v x).Receiving := by
  have hparity : x.parityError = false := h.parityError_of_input hdir
  by_cases hv : v = parityBit x.inputByte
  · rw [parityCheck_right hv]
    exact { h with
      pcie := nofun, trun_of_received := fun _ => rfl, pcie_of_received := fun _ => h.pcie htrun,
      parity_of_received := fun _ => hparity }
  · have hreceived : x.byteReceived = false := h.byteReceived_of_trun htrun
    rw [parityCheck_wrong hv]
    exact { h with
      dir := iff_of_true rfl rfl, nackDriven := fun _ => rfl,
      parity_of_received := fun hr => absurd (hreceived.symm.trans hr) nofun }

theorem receiving_rxBit (h : x.Receiving) (htrun : x.trun = true) (hdir : x.dir = .input) (v : Bool) :
    (rxBit v x).Receiving := by
  unfold rxBit
  split
  · exact { h with }
  · split
    · exact receiving_parityCheck h htrun hdir v
    · exact h

end

/-! ### The machine -/

/-- PROMPT chooses the next step, and the transceiver keeps to its phases. -/
structure State.PromptPhased (s : State) : Prop where
  turn : s.PromptTurn
  phase : s.xcvr.Prompt

namespace State.PromptPhased

variable {s t : State}

theorem setXcvr (h : s.PromptPhased) {x : Xcvr} (hx : x.Prompt) : (s.setXcvr x).PromptPhased := ⟨h.turn, hx⟩

theorem setRes (h : s.PromptPhased) (b : Byte) : (s.setRes b).PromptPhased := ⟨h.turn, h.phase⟩

theorem raise (h : s.PromptPhased) (e : CmdError) : (s.raise e).PromptPhased := ⟨h.turn, h.phase⟩

theorem setEnv (h : s.PromptPhased) {e : Env} (he : e.agenda = s.env.agenda) : (s.setEnv e).PromptPhased :=
  ⟨⟨h.turn.1, he.trans h.turn.2⟩, h.phase⟩

theorem afterSample (h : s.PromptPhased) : s.afterSample.PromptPhased := by
  unfold State.afterSample
  split
  · exact h
  · exact h.setEnv rfl

theorem foregroundStep (h : s.PromptPhased) (hfg : s.xcvr.foregroundEnabled = true) :
    (foregroundStep s).PromptPhased := by
  obtain hx | hx | hx | hx := s.xcvr.prompt_iff.1 h.phase <;> simp only [Xcvr.foregroundEnabled, hx.fg] at hfg
  · exact absurd hfg nofun
  · rw [foregroundStep_txBit hx.fg hfg]
    exact h.setXcvr (driving_txBitStep hx _)
  · have hcheck : s.xcvr.checkErrors = false := by simpa using hfg
    rw [foregroundStep_txCheck hx.fg hcheck]
    exact h.setXcvr (checking_txCheckStep hx hcheck _)
  · rw [foregroundStep_rxWait hx.fg hfg]
    exact (h.setRes _).setXcvr (receiving_completes hx hfg).prompt

theorem pendingEdgeStep (h : s.PromptPhased) : (pendingEdgeStep s).PromptPhased := by
  unfold Machine.pendingEdgeStep
  split
  next hpend =>
    have hpcie : s.xcvr.pcie = true := by
      simp only [edgePending, Bool.and_eq_true] at hpend
      exact hpend.1.2
    have hclear : ({ s.xcvr with pcPend := false } : Xcvr).Receiving := { h.phase.receiving hpcie with }
    exact h.setXcvr (receiving_pinChangeHandler hclear hpcie _).prompt
  next => exact h

theorem rxSample (h : s.PromptPhased) (hx : s.xcvr.Receiving) (htrun : s.xcvr.trun = true)
    (hdir : s.xcvr.dir = .input) : (rxSample s).PromptPhased := by
  have hretimed : (rxRetime s.params s.xcvr).Receiving := receiving_rxRetime hx _
  exact h.afterSample.afterSample.afterSample.setXcvr
    (receiving_rxBit hretimed ((rxRetime_trun _ _).trans htrun) ((rxRetime_dir _ _).trans hdir) _).prompt

/-- While the foreground waits, a match finds only the branch of the phase (R310). -/
theorem timerHandler (h : s.PromptPhased) (hfg : s.xcvr.foregroundEnabled = false) (htrun : s.xcvr.trun = true) :
    (timerHandler s).PromptPhased := by
  obtain hx | hx | hx | hx := s.xcvr.prompt_iff.1 h.phase
  · exact absurd (hx.trun.symm.trans htrun) nofun
  · rw [timerHandler_of_output hx.checkErrors hx.nackDriven hx.dir hx.parityError]
    exact h.setXcvr (Xcvr.Driving.prompt { hx with })
  · have hcheck : s.xcvr.checkErrors = true := by simpa [Xcvr.foregroundEnabled, hx.fg] using hfg
    rw [timerHandler_of_checkErrors hcheck]
    exact h.afterSample.setXcvr (Xcvr.Checking.prompt { hx with })
  · cases hnack : s.xcvr.nackDriven with
    | true =>
      rw [timerHandler_of_nackDriven hx.checkErrors hnack]
      exact h.setXcvr (receiving_nackRelease hx htrun).prompt
    | false =>
      cases hdir : s.xcvr.dir with
      | output =>
        have hparity : s.xcvr.parityError = true := hx.dir.1 hdir
        rw [timerHandler_of_parityError hx.checkErrors hnack hdir hparity]
        exact h.setXcvr (receiving_nackDrive hx hparity).prompt
      | input =>
        rw [timerHandler_of_input hx.checkErrors hnack hdir]
        exact h.rxSample hx htrun hdir

theorem timerStep (h : s.PromptPhased) (hfg : s.xcvr.foregroundEnabled = false) : (timerStep s).PromptPhased := by
  unfold Machine.timerStep
  split
  next htrun =>
    by_cases hmatch : s.xcvr.tcnt + 1 = s.xcvr.ocr
    · rw [timerAct_matches hmatch]
      exact (h.setXcvr (x := { s.xcvr with tcnt := 0 }) h.phase).timerHandler hfg htrun
    · rw [timerAct_counts hmatch]
      exact h.setXcvr h.phase
  next => exact h


theorem clockUnit (h : s.PromptPhased) (hfg : s.xcvr.foregroundEnabled = false) : (clockUnit s).PromptPhased := by
  have hagenda : s.env.clockUnit.agenda = s.env.agenda := by unfold Env.clockUnit; split <;> rfl
  exact (h.setEnv hagenda).timerStep hfg

/-- Only TX_BYTE and RX_BYTE write the transceiver, and they find it at rest (R300, R302). -/
theorem exec (h : s.PromptPhased) (hfg : s.xcvr.fg = .idle) {i : Instr} (ht : exec i s = .next t) : t.PromptPhased := by
  have hturn : t.PromptTurn := ⟨exec_keeps_params ht ▸ h.turn.1, (exec_keeps_agenda ht).trans h.turn.2⟩
  have hrest : s.xcvr.Resting := h.phase.resting hfg
  have hkept (hi : .xcvr ∉ writeSet i) : t.PromptPhased := by
    have hxcvr : t.xcvr = s.xcvr := exec_keeps ht hi nofun
    exact ⟨hturn, hxcvr ▸ h.phase⟩
  cases i
  case txByte b => cases ht; exact h.setXcvr (resting_txStart hrest _ b).prompt
  case rxByte => cases ht; exact h.setXcvr (resting_rxStart hrest).prompt
  all_goals exact hkept (by simp [writeSet])

theorem hostStep (h : s.PromptPhased) (ht : hostStep s = .next t) : t.PromptPhased := by
  obtain ⟨w, e, hissue, he, hfg⟩ | ⟨e, hloop, he⟩ := hostStep_cases s
  · obtain ⟨i, -, hi⟩ | hi := issue_cases w (s.setEnv e)
    · exact (h.setEnv he).exec hfg (hi.symm.trans (hissue.symm.trans ht))
    · cases hi.symm.trans (hissue.symm.trans ht)
      exact (h.setEnv he).raise _
  · cases hloop.symm.trans ht
    exact h.setEnv he

/-- The move of every agent that PROMPT may choose. -/
theorem step (h : s.PromptPhased) (ht : step s = .next t) : t.PromptPhased := by
  rw [step_of_promptTurn h.turn] at ht
  obtain ⟨level, e, hp, he⟩ | ⟨hfg, hp⟩ | ⟨hfg, ⟨-, hp⟩ | ⟨-, hp⟩ | ⟨-, hp⟩ | hp⟩ := promptStep_cases s <;>
    rw [hp] at ht
  · cases ht
    exact (h.setEnv he).setXcvr h.phase
  · cases ht
    have hact : foregroundAct s = Machine.foregroundStep s := (if_pos hfg).symm
    exact hact ▸ h.foregroundStep hfg
  · cases ht
    exact h.setXcvr (prompt_pinChangeAct h.phase _)
  · cases ht
    exact h.pendingEdgeStep
  · exact h.hostStep ht
  · cases ht
    exact h.clockUnit hfg

end State.PromptPhased

/-- Settles O58: every agent's prompt move keeps the phases, and at rest TRUN and PCIE are 0. -/
theorem promptStepsKeepIdleQuiet : Obligations.PromptStepsKeepIdleQuiet := by
  intro s t hturn hphase ht
  have hkept : t.PromptPhased := State.PromptPhased.step ⟨hturn, hphase⟩ ht
  exact ⟨hkept.phase, hkept.turn, fun hfg => ⟨(hkept.phase.resting hfg).trun, (hkept.phase.resting hfg).pcie⟩⟩

end Sys2Proof.Machine
end

section
/-! SUPPORT. O54, O55: the state after reset (R420, R421). -/

namespace Sys2Proof.Machine

section

variable (p : Params) (prng : Byte) (term : Bool)

/-- At reset the card receives, so the line is the terminal's (R46, R420). -/
theorem reset_line : (Xcvr.reset term).line = term := by simp [Xcvr.line, Xcvr.reset]

/-- No element with an unspecified reset value has been written (R36, R420). -/
theorem reset_holds (e : Element) : (State.resetWith p prng term).holds e = false := by
  cases e
  case data i => exact Vector.getElem_replicate i.isLt
  all_goals rfl

theorem reset_inRange : (State.resetWith p prng term).InRange where
  cfg_reserved := (BitVec.toNat_setWidth_of_le (b := p.buildFlags) (by decide)).trans_lt p.buildFlags.isLt
  status_reserved := show (0 : Byte).toNat < 16 by decide
  dcnt_le := Nat.zero_le 40
  counter_le := Nat.zero_le 9
  txIdx_le := Nat.zero_le 10

/-- Nothing is written yet, so nothing can be inconsistent (R36). -/
theorem reset_masksConsistent : (State.resetWith p prng term).MasksConsistent := ⟨nofun, nofun, nofun⟩

theorem reset_hidingConsistent : (State.resetWith p prng term).HidingConsistent := ⟨nofun, nofun, nofun⟩

theorem reset_resting : (Xcvr.reset term).Resting := ⟨rfl, rfl, rfl, rfl, rfl, rfl⟩

end

/-- Settles O54: the table's values are those of powerUp; the line and the unwritten elements have their lemmas. -/
theorem resetLeavesTheStatedValues : Obligations.ResetLeavesTheStatedValues := by
  rintro p prng term _ rfl
  have hline : (State.resetWith p prng term).xcvr.linePrev = (State.resetWith p prng term).xcvr.line :=
    (reset_line term).symm
  exact ⟨rfl, rfl, rfl, rfl, rfl, rfl, rfl, rfl, rfl, rfl, rfl, rfl, rfl, rfl, rfl, rfl, rfl, rfl, rfl, rfl, rfl, rfl,
    rfl, rfl, rfl, rfl, rfl, rfl, hline, reset_holds p prng term, rfl⟩

/-- Settles O55: the ranges by their values, the consistency because nothing is written, and the transceiver at rest. -/
theorem resetMeetsTheInvariants : Obligations.ResetMeetsTheInvariants := by
  rintro p prng term _ rfl
  exact ⟨reset_inRange p prng term, reset_masksConsistent p prng term, reset_hidingConsistent p prng term,
    (reset_resting term).prompt⟩

end Sys2Proof.Machine
end
